-- ==== Sys2Proof/Word.lean ====
section
/-! DEFINITION. The word types of the codec (R10 00_scope.md): u8, u16 and u32 as bit vectors. -/

namespace Sys2Proof

/-- A byte (u8). -/
abbrev Byte := BitVec 8

/-- A 16-bit value: u16, or the bit pattern of an i16. -/
abbrev Half := BitVec 16

/-- A 32-bit value: a command word, a read-port value, or the bit pattern of an i32. -/
abbrev Word := BitVec 32

/-- A read-port address: 10 bits, one per 32-bit register (R51 20_memory.md). -/
abbrev PortAddr := BitVec 10

end Sys2Proof
end

