-- ==== Sys2Proof/Syntax.lean ====
section
/-! DEFINITION. The commands of the block (R74 30_encoding.md), one constructor per row of spec/opcode_table.json,
and the written forms of the assembler (R79, R80 30_encoding.md). -/

namespace Sys2Proof

/-- One command. Operand widths are those of the formats of R71 and R73 (30_encoding.md). -/
inductive Instr where
  /-- NOP, format N (R170 43_control.md). -/
  | nop
  /-- CRC_INIT, format N (R107 40_crc.md). -/
  | crcInit
  /-- CRC_BYTE b, format B (R108 40_crc.md). -/
  | crcByte (b : Byte)
  /-- SET_YAW h, format H (R123 41_tx_encoder.md). -/
  | setYaw (h : Half)
  /-- SET_PITCH h, format H (R124 41_tx_encoder.md). -/
  | setPitch (h : Half)
  /-- TX_CONTROL, format N (R125 41_tx_encoder.md). -/
  | txControl
  /-- TX_HOME, format N (R126 41_tx_encoder.md). -/
  | txHome
  /-- TX_ATTREQ, format N (R127 41_tx_encoder.md). -/
  | txAttreq
  /-- RX_RESET, format N (R142 42_rx_decoder.md). -/
  | rxReset
  /-- RX_BYTE b, format B (R143 42_rx_decoder.md). -/
  | rxByte (b : Byte)
  /-- RX_ABORT, format N (R159 42_rx_decoder.md). -/
  | rxAbort
  /-- CFG_WRITE m, format M, allowed bits 1:0 (R171 43_control.md). -/
  | cfgWrite (m : Half)
  /-- STATUS_CLEAR m, format M, allowed bits 2, 7 and 8 (R172 43_control.md). -/
  | statusClear (m : Half)
  /-- ILLEGAL: what every word of R76 (30_encoding.md) decodes to; the word is not kept (R173 43_control.md). -/
  | illegal
  deriving DecidableEq, Repr

/-- The field names an M-format mask may be written with (R79 30_encoding.md). -/
inductive MaskName where
  | scanEn
  | crcStrict
  | done
  | overrun
  | cmdErr
  deriving DecidableEq, Repr

/-- A written operand (R79 30_encoding.md): a decimal, a hexadecimal, or a `|`-joined list of field names,
whose empty list is written `0`. -/
inductive Operand where
  | dec (n : Int)
  | hex (n : Nat)
  | names (l : List MaskName)
  deriving DecidableEq, Repr

/-- The mnemonics a line may begin with: the 13 commands an assembler can write (R79; it never writes an illegal
word) and the 7 pseudo-instructions (R80 30_encoding.md). -/
inductive Mnemonic where
  | nop | crcInit | crcByte | setYaw | setPitch | txControl | txHome | txAttreq | rxReset | rxByte | rxAbort
  | cfgWrite | statusClear
  | crc | sendControl | requestAttitude | rxBytes | ackAll | cfgReference | cfgStrict
  deriving DecidableEq, Repr

/-- The pseudo-instructions of R80 (30_encoding.md), operands already assembled. -/
inductive Pseudo where
  | crc (bs : List Byte)
  | sendControl (y p : Half)
  | requestAttitude
  | rxBytes (bs : List Byte)
  | ackAll
  | cfgReference
  | cfgStrict
  deriving DecidableEq, Repr

end Sys2Proof
end

