-- ==== Sys2Proof/WellFormed.lean ====
section
/-! DEFINITION. Which commands some word of the command port stands for: format M admits only its opcode's allowed
bits (R71 30_encoding.md). Every other operand is legal at every value. -/

namespace Sys2Proof

/-- The operand bits CFG_WRITE does not allow: all but 1:0 (R71, R75 30_encoding.md). -/
def cfgWriteForbidden : Half := 0xFFFC#16

/-- The operand bits STATUS_CLEAR does not allow: all but 2, 7 and 8 (R71, R75 30_encoding.md). -/
def statusClearForbidden : Half := 0xFE7B#16

/-- The operand check of R71 and R76 (30_encoding.md). -/
def Instr.wellFormed : Instr → Bool
  | .nop => true
  | .crcInit => true
  | .crcByte _ => true
  | .setYaw _ => true
  | .setPitch _ => true
  | .txControl => true
  | .txHome => true
  | .txAttreq => true
  | .rxReset => true
  | .rxByte _ => true
  | .rxAbort => true
  | .cfgWrite m => m &&& cfgWriteForbidden == 0#16
  | .statusClear m => m &&& statusClearForbidden == 0#16
  | .illegal => true

end Sys2Proof
end

