-- ==== Sys2Proof/Decode.lean ====
section
/-! DEFINITION. Decoding a command word (R75 30_encoding.md), total on every 32-bit word; the encoder (R81); the
match and mask rows of spec/opcode_table.json; and the expansion of the pseudo-instructions (R80). -/

namespace Sys2Proof

/-- w[31:24] (R70 30_encoding.md). -/
def opField (w : Word) : Byte := w.extractLsb' 24 8

/-- w[23:16], reserved (R70, R72 30_encoding.md). -/
def rsvField (w : Word) : Byte := w.extractLsb' 16 8

/-- w[15:0] (R70 30_encoding.md). -/
def immField (w : Word) : Half := w.extractLsb' 0 16

/-- Format N: the operand field must be 0 (R71 30_encoding.md). -/
def formatN (i : Instr) (imm : Half) : Instr :=
  if imm = 0#16 then i else .illegal

/-- Format B: imm[15:8] must be 0 and imm[7:0] is the operand (R71, R73 30_encoding.md). -/
def formatB (i : Byte → Instr) (imm : Half) : Instr :=
  if imm.extractLsb' 8 8 = 0#8 then i (imm.extractLsb' 0 8) else .illegal

/-- Format H: the operand field is the operand, unchanged (R71, R73 30_encoding.md). -/
def formatH (i : Half → Instr) (imm : Half) : Instr := i imm

/-- Format M: no forbidden bit may be 1 (R71, R75 30_encoding.md). -/
def formatM (forbidden : Half) (i : Half → Instr) (imm : Half) : Instr :=
  if imm &&& forbidden = 0#16 then i imm else .illegal

/-- The opcode map (R74, R75 30_encoding.md); every op value not in it is unassigned. -/
def decodeOp (op : Byte) (imm : Half) : Instr :=
  match op with
  | 0x00#8 => formatN .nop imm
  | 0x01#8 => formatN .crcInit imm
  | 0x02#8 => formatB .crcByte imm
  | 0x10#8 => formatH .setYaw imm
  | 0x11#8 => formatH .setPitch imm
  | 0x20#8 => formatN .txControl imm
  | 0x21#8 => formatN .txHome imm
  | 0x22#8 => formatN .txAttreq imm
  | 0x30#8 => formatN .rxReset imm
  | 0x31#8 => formatB .rxByte imm
  | 0x32#8 => formatN .rxAbort imm
  | 0x40#8 => formatM cfgWriteForbidden .cfgWrite imm
  | 0x41#8 => formatM statusClearForbidden .statusClear imm
  | _ => .illegal

/-- R75 (30_encoding.md): every 32-bit word is exactly one command or ILLEGAL. A word with a non-zero reserved
field is ILLEGAL whatever its op (R72). -/
def decode (w : Word) : Instr :=
  if rsvField w = 0#8 then decodeOp (opField w) (immField w) else .illegal

/-- The op of each command (R74 30_encoding.md); ILLEGAL has none. -/
def Instr.op? : Instr → Option Byte
  | .nop => some 0x00#8
  | .crcInit => some 0x01#8
  | .crcByte _ => some 0x02#8
  | .setYaw _ => some 0x10#8
  | .setPitch _ => some 0x11#8
  | .txControl => some 0x20#8
  | .txHome => some 0x21#8
  | .txAttreq => some 0x22#8
  | .rxReset => some 0x30#8
  | .rxByte _ => some 0x31#8
  | .rxAbort => some 0x32#8
  | .cfgWrite _ => some 0x40#8
  | .statusClear _ => some 0x41#8
  | .illegal => none

/-- operand16 of R81 (30_encoding.md). -/
def Instr.operand16 : Instr → Half
  | .nop => 0#16
  | .crcInit => 0#16
  | .crcByte b => b.setWidth 16
  | .setYaw h => h
  | .setPitch h => h
  | .txControl => 0#16
  | .txHome => 0#16
  | .txAttreq => 0#16
  | .rxReset => 0#16
  | .rxByte b => b.setWidth 16
  | .rxAbort => 0#16
  | .cfgWrite m => m
  | .statusClear m => m
  | .illegal => 0#16

/-- The op of the word that stands for ILLEGAL in `encode`: 0xFF, an unassigned op (K4 95_test_vectors.md).
DESIGN CHOICE (log entry 7): the spec gives ILLEGAL no word of its own; many words decode to it. Safe. -/
def illegalOp : Byte := 0xFF#8

/-- R81 (30_encoding.md): `(op << 24) | operand16`. -/
def encode (i : Instr) : Word :=
  ((i.op?.getD illegalOp).setWidth 32 <<< 24) ||| i.operand16.setWidth 32

/-- One row of spec/opcode_table.json: a word w is the row's command when `w &&& mask = pattern`. -/
structure OpcodeRow where
  op      : Byte
  pattern : Word
  mask    : Word
  deriving DecidableEq, Repr

/-- The rows of spec/opcode_table.json with their match and mask as the table gives them, in its order. The
table's last row, ILLEGAL (match 0, mask 0), is its fallback "lowest priority: applies to exactly the words no other
row matches", and so is no row here. -/
def opcodeRows : List OpcodeRow :=
  [ ⟨0x00#8, 0x00000000#32, 0xFFFFFFFF#32⟩,   -- NOP
    ⟨0x01#8, 0x01000000#32, 0xFFFFFFFF#32⟩,   -- CRC_INIT
    ⟨0x02#8, 0x02000000#32, 0xFFFFFF00#32⟩,   -- CRC_BYTE
    ⟨0x10#8, 0x10000000#32, 0xFFFF0000#32⟩,   -- SET_YAW
    ⟨0x11#8, 0x11000000#32, 0xFFFF0000#32⟩,   -- SET_PITCH
    ⟨0x20#8, 0x20000000#32, 0xFFFFFFFF#32⟩,   -- TX_CONTROL
    ⟨0x21#8, 0x21000000#32, 0xFFFFFFFF#32⟩,   -- TX_HOME
    ⟨0x22#8, 0x22000000#32, 0xFFFFFFFF#32⟩,   -- TX_ATTREQ
    ⟨0x30#8, 0x30000000#32, 0xFFFFFFFF#32⟩,   -- RX_RESET
    ⟨0x31#8, 0x31000000#32, 0xFFFFFF00#32⟩,   -- RX_BYTE
    ⟨0x32#8, 0x32000000#32, 0xFFFFFFFF#32⟩,   -- RX_ABORT
    ⟨0x40#8, 0x40000000#32, 0xFFFFFFFC#32⟩,   -- CFG_WRITE
    ⟨0x41#8, 0x41000000#32, 0xFFFFFE7B#32⟩ ]  -- STATUS_CLEAR

/-- The match-and-mask test of one row of spec/opcode_table.json. -/
def OpcodeRow.covers (r : OpcodeRow) (w : Word) : Prop := w &&& r.mask = r.pattern

/-- The command the decoder reads from a row's word, its bits numbered as spec/opcode_table.json numbers them. The
command word is handed over whole as one 32-bit number (R60 20_memory.md), so no byte order comes in; a command of
more than 32 bits does not exist (R70, R78 30_encoding.md). -/
def decodeTableWord (nbits w : Nat) : Option Instr :=
  if nbits ≤ 32 then some (decode (BitVec.ofNat 32 (w % 2 ^ nbits))) else none

/-- The expansions of R80 (30_encoding.md). -/
def expandPseudo : Pseudo → List Instr
  | .crc bs => .crcInit :: bs.map .crcByte
  | .sendControl y p => [.setYaw y, .setPitch p, .txControl]
  | .requestAttitude => [.rxReset, .txAttreq]
  | .rxBytes bs => bs.map .rxByte
  | .ackAll => [.statusClear 0x0184#16]
  | .cfgReference => [.cfgWrite 0x0001#16]
  | .cfgStrict => [.cfgWrite 0x0003#16]

end Sys2Proof
end

