-- ==== Sys2Proof/Config.lean ====
section
/-! DEFINITION. What an implementation fixes: the block's one parameter, P_HOME_VARIANT (R8 00_scope.md).
Every other size is fixed by the spec (R9), and the spec leaves no value undefined, so there is no free value. -/

namespace Sys2Proof

/-- P_HOME_VARIANT: which home-frame header TX_HOME sends (R8 00_scope.md, R126 41_tx_encoder.md, 90_conflicts.md C1). -/
inductive HomeVariant where
  /-- The header of the source's builder and its wire table: length 0x0000, command 0x01. The default. -/
  | table
  /-- The header of the source's known vector: length 0x0001, command 0x08. -/
  | vec8
  deriving DecidableEq, Repr

/-- The parameters of one implementation, fixed for its whole life. -/
structure Params where
  homeVariant : HomeVariant
  deriving DecidableEq, Repr

/-- R8 00_scope.md: `TABLE` is the default. -/
def Params.default : Params := { homeVariant := .table }

end Sys2Proof
end

