-- ==== Sys2Proof/Machine/State.lean ====
section
/-! DEFINITION. The state of the block (R20 10_state.md) as plain data, its value after reset (R47 10_state.md), and
the reasons a step could stop: none of its own (R180 60_exceptions.md).

CONFIG and STATUS are written only field by field and their reserved bits have no storage (R27, R31, R35
10_state.md), so they are held as their fields; Machine/Flags.lean builds the 16-bit words the host reads
(DESIGN CHOICE, log entry 5, safe). CRC_TABLE is a constant (R44), `crcTable` in Machine/Ops.lean (log entry 6). -/

namespace Sys2Proof.Machine

/-- STATUS.RX_STATE: the receive state (R29 10_state.md). The value 3 is never produced, and has no constructor. -/
inductive RxState where
  /-- 0: no frame byte held. -/
  | search
  /-- 1: a 0x55 is held as frame byte 0. -/
  | have55
  /-- 2: frame bytes are held, waiting for the rest of 22. -/
  | collect
  deriving DecidableEq, Repr

/-- STATUS.RESULT: the receive outcomes, codes 0 to 7 in this order (R181 60_exceptions.md). -/
inductive RxResult where
  | none
  | ok
  | okCrcMismatch
  | syncError
  | lengthError
  | crcRejected
  | timeout
  | shortFrame
  deriving DecidableEq, Repr

/-- The stored bits of CONFIG (R24 to R27 10_state.md): bit 0 and bit 1. -/
@[ext]
structure ConfigReg where
  scanEn    : Bool
  crcStrict : Bool
  deriving DecidableEq, Repr

/-- The stored fields of STATUS (R28 to R35 10_state.md): bits 1:0, 2, 6:4, 7 and 8. -/
@[ext]
structure Status where
  rxState : RxState
  done    : Bool
  result  : RxResult
  overrun : Bool
  cmdErr  : Bool
  deriving DecidableEq, Repr

/-- What the outside does to the block's two inputs that change its state: a word on the command port (R7
00_scope.md) or the reset input (R200 70_reset_and_hazards.md). -/
inductive HostEvent where
  | command (w : Word)
  | reset
  deriving DecidableEq, Repr

/-- The state of the block: every element of R20 (10_state.md), and the model's own two fields at the end. -/
@[ext]
structure State where
  /-- CRC_ACC (R23). -/
  crcAcc    : Half
  /-- CONFIG (R24). -/
  config    : ConfigReg
  /-- STATUS (R28). -/
  status    : Status
  /-- RX_COUNT, 0 to 21 (R36); it never reads 22 (R148 42_rx_decoder.md). -/
  rxCount   : Fin 22
  /-- YAW_OUT (R37). -/
  yawOut    : Half
  /-- PITCH_OUT (R37). -/
  pitchOut  : Half
  /-- TX_LAST_CRC (R38). -/
  txLastCrc : Half
  /-- YAW_RAW (R39). -/
  yawRaw    : Half
  /-- PITCH_RAW (R39). -/
  pitchRaw  : Half
  /-- ROLL_RAW (R39). -/
  rollRaw   : Half
  /-- YAW_RATE (R39). -/
  yawRate   : Half
  /-- PITCH_RATE (R39). -/
  pitchRate : Half
  /-- ROLL_RATE (R39). -/
  rollRate  : Half
  /-- PITCH_DD, the bit pattern of an i32 (R40). -/
  pitchDd   : Word
  /-- RX_CTRL (R41). -/
  rxCtrl    : Byte
  /-- RX_LEN (R41). -/
  rxLen     : Half
  /-- RX_SEQ (R41). -/
  rxSeq     : Half
  /-- RX_CMD (R41). -/
  rxCmd     : Byte
  /-- RX_CRC_RECV (R41). -/
  rxCrcRecv : Half
  /-- RX_CRC_CALC (R41). -/
  rxCrcCalc : Half
  /-- RX_BUF[0..21] (R42). -/
  rxBuf     : Vector Byte 22
  /-- tx_out, in order, only growing (R43). -/
  txOut     : List Byte
  /-- The implementation parameter (R8 00_scope.md), constant. The model's own field (DESIGN CHOICE, log entry 3). -/
  params    : Params
  /-- What the host has put on the port and the block has not yet taken, oldest first (R13, R22). The model's own
  field (DESIGN CHOICE, log entry 1, safe). -/
  port      : List HostEvent
  deriving DecidableEq, Repr

/-- The faults of the machine: none. "The block never traps" (R180 60_exceptions.md): an error is an outcome code or
STATUS.CMD_ERR, and the machine goes on. -/
inductive Fault where
  deriving DecidableEq, Repr

/-- The refusals of the machine. -/
inductive Refusal where
  /-- Raised by an arm of `exec` whose command has no meaning yet; no arm raises it now. Safe: the model would stop
  where the block goes on. -/
  | notModelled (mnemonic : String)
  deriving DecidableEq, Repr

/-- The block right after reset (R47 10_state.md). tx_out is empty, as the programs of 95_test_vectors.md start
(DEDUCED, log entry 4, unsafe: reset itself does not touch tx_out); P_HOME_VARIANT has its default (log entry 3);
nothing is on the port (log entry 2). -/
def State.reset : State where
  crcAcc    := 0x0000#16
  config    := { scanEn := true, crcStrict := false }
  status    := { rxState := .search, done := false, result := .none, overrun := false, cmdErr := false }
  rxCount   := 0
  yawOut    := 0x0000#16
  pitchOut  := 0x0000#16
  txLastCrc := 0x0000#16
  yawRaw    := 0x0000#16
  pitchRaw  := 0x0000#16
  rollRaw   := 0x0000#16
  yawRate   := 0x0000#16
  pitchRate := 0x0000#16
  rollRate  := 0x0000#16
  pitchDd   := 0#32
  rxCtrl    := 0x00#8
  rxLen     := 0x0000#16
  rxSeq     := 0x0000#16
  rxCmd     := 0x00#8
  rxCrcRecv := 0x0000#16
  rxCrcCalc := 0x0000#16
  rxBuf     := Vector.replicate 22 0x00#8
  txOut     := []
  params    := Params.default
  port      := []

end Sys2Proof.Machine
end

