-- ==== Sys2Proof/Machine/Flags.lean ====
section
/-! DEFINITION. CONFIG and STATUS as the 16-bit words the host reads (R24 to R35 10_state.md), and the tests of the
mask operands. -/

namespace Sys2Proof.Machine

/-- The 2-bit code of a receive state (R29 10_state.md). -/
def RxState.code : RxState → Half
  | .search => 0#16
  | .have55 => 1#16
  | .collect => 2#16

/-- The 3-bit code of a receive outcome (R181 60_exceptions.md). -/
def RxResult.code : RxResult → Half
  | .none => 0#16
  | .ok => 1#16
  | .okCrcMismatch => 2#16
  | .syncError => 3#16
  | .lengthError => 4#16
  | .crcRejected => 5#16
  | .timeout => 6#16
  | .shortFrame => 7#16

/-- A flag as a bit at position n. -/
def flagAt (f : Bool) (n : Nat) : Half := if f then 1#16 <<< n else 0#16

/-- CONFIG: SCAN_EN bit 0, CRC_STRICT bit 1, bits 15:2 read as 0 (R25 to R27 10_state.md). -/
def configWord (c : ConfigReg) : Half := flagAt c.scanEn 0 ||| flagAt c.crcStrict 1

/-- STATUS: RX_STATE 1:0, DONE 2, RESULT 6:4, OVERRUN 7, CMD_ERR 8; bit 3 and bits 15:9 read as 0 (R29 to R35
10_state.md). -/
def statusWord (t : Status) : Half :=
  t.rxState.code ||| flagAt t.done 2 ||| (t.result.code <<< 4) ||| flagAt t.overrun 7 ||| flagAt t.cmdErr 8

/-- The bits of a CFG_WRITE operand (R171 43_control.md): m[0] and m[1]. Other bits are not read (log entry 8). -/
def configOf (m : Half) : ConfigReg := { scanEn := m.getLsbD 0, crcStrict := m.getLsbD 1 }

/-- The STATUS a STATUS_CLEAR operand leaves (R172 43_control.md): m[2], m[7] and m[8] clear DONE, OVERRUN and
CMD_ERR; RX_STATE and RESULT never change. Other bits are not read (log entry 8). -/
def clearedStatus (m : Half) (t : Status) : Status :=
  { t with
    done    := t.done && !m.getLsbD 2
    overrun := t.overrun && !m.getLsbD 7
    cmdErr  := t.cmdErr && !m.getLsbD 8 }

/-- The STATUS after outcome o is recorded (R184 60_exceptions.md): OVERRUN if DONE was already 1, DONE, RESULT. -/
def recordedStatus (o : RxResult) (t : Status) : Status :=
  { t with
    overrun := t.overrun || t.done
    done    := true
    result  := o }

end Sys2Proof.Machine
end

