-- ==== Sys2Proof/Machine/Operands.lean ====
section
/-! DEFINITION. How values are formed: the operators of R11 (00_scope.md), the wire's little-endian fields (R58
20_memory.md), the read port's extensions (R54 20_memory.md) and the pitch decode (R155 42_rx_decoder.md). -/

namespace Sys2Proof.Machine

/-- `le16(lo, hi)`: a u16 from two bytes, least significant first (R11 00_scope.md, R58 20_memory.md). -/
def le16 (lo hi : Byte) : Half := lo.setWidth 16 ||| (hi.setWidth 16 <<< 8)

/-- `bytes_le16(v)`: `[v[7:0], v[15:8]]` (R11 00_scope.md). -/
def bytesLe16 (v : Half) : List Byte := [v.extractLsb' 0 8, v.extractLsb' 8 8]

/-- `s16(v)`: a u16 read as an i16 (R11 00_scope.md). -/
def s16 (v : Half) : Int := if v.toNat < 0x8000 then (v.toNat : Int) else (v.toNat : Int) - 0x10000

/-- `u16of(x)`: the low 16 bits of an integer's two's-complement form (R11 00_scope.md). -/
def u16of (x : Int) : Half := BitVec.ofInt 16 x

/-- Zero extension of a u8 register to the read port's 32 bits (R54 20_memory.md). -/
def zext8 (v : Byte) : Word := v.setWidth 32

/-- Zero extension of a u16 register to the read port's 32 bits (R54 20_memory.md). -/
def zext16 (v : Half) : Word := v.setWidth 32

/-- Sign extension of an i16 register to the read port's 32 bits (R54 20_memory.md). -/
def sext16 (v : Half) : Word := v.signExtend 32

/-- The asymmetric pitch decode in tenths of a degree, computed on integers (R155 42_rx_decoder.md). -/
def pitchTenths (raw : Int) : Int := if raw ≤ -900 then -raw else raw - 1800

/-- `pitch_dd(s16(raw))` as the 32-bit pattern PITCH_DD holds (R153, R155 42_rx_decoder.md, R40 10_state.md). -/
def pitchDdOf (raw : Half) : Word := BitVec.ofInt 32 (pitchTenths (s16 raw))

end Sys2Proof.Machine
end

