-- ==== Sys2Proof/Machine/Ops.lean ====
section
/-! DEFINITION. The named operations over the registers: the checksum (R100 to R104 40_crc.md), the frame seal and
emit (R12 00_scope.md, R122 41_tx_encoder.md), recording an outcome, which is what the block has in place of trap
entry (R184, R190 60_exceptions.md), clearing it, in place of trap return (R191), the illegal-command error (R174
43_control.md), the decoder's register writes (R144 to R153 42_rx_decoder.md) and the reset input (R200
70_reset_and_hazards.md). -/

namespace Sys2Proof.Machine

/-- CRC_TABLE[0x00..0x0F] (R101 40_crc.md). -/
def crcRow0 : Vector Half 16 :=
  #v[0x0000#16, 0x1021#16, 0x2042#16, 0x3063#16, 0x4084#16, 0x50A5#16, 0x60C6#16, 0x70E7#16,
     0x8108#16, 0x9129#16, 0xA14A#16, 0xB16B#16, 0xC18C#16, 0xD1AD#16, 0xE1CE#16, 0xF1EF#16]

/-- CRC_TABLE[0x10..0x1F] (R101 40_crc.md). -/
def crcRow1 : Vector Half 16 :=
  #v[0x1231#16, 0x0210#16, 0x3273#16, 0x2252#16, 0x52B5#16, 0x4294#16, 0x72F7#16, 0x62D6#16,
     0x9339#16, 0x8318#16, 0xB37B#16, 0xA35A#16, 0xD3BD#16, 0xC39C#16, 0xF3FF#16, 0xE3DE#16]

/-- CRC_TABLE[0x20..0x2F] (R101 40_crc.md). -/
def crcRow2 : Vector Half 16 :=
  #v[0x2462#16, 0x3443#16, 0x0420#16, 0x1401#16, 0x64E6#16, 0x74C7#16, 0x44A4#16, 0x5485#16,
     0xA56A#16, 0xB54B#16, 0x8528#16, 0x9509#16, 0xE5EE#16, 0xF5CF#16, 0xC5AC#16, 0xD58D#16]

/-- CRC_TABLE[0x30..0x3F] (R101 40_crc.md). -/
def crcRow3 : Vector Half 16 :=
  #v[0x3653#16, 0x2672#16, 0x1611#16, 0x0630#16, 0x76D7#16, 0x66F6#16, 0x5695#16, 0x46B4#16,
     0xB75B#16, 0xA77A#16, 0x9719#16, 0x8738#16, 0xF7DF#16, 0xE7FE#16, 0xD79D#16, 0xC7BC#16]

/-- CRC_TABLE[0x40..0x4F] (R101 40_crc.md). -/
def crcRow4 : Vector Half 16 :=
  #v[0x48C4#16, 0x58E5#16, 0x6886#16, 0x78A7#16, 0x0840#16, 0x1861#16, 0x2802#16, 0x3823#16,
     0xC9CC#16, 0xD9ED#16, 0xE98E#16, 0xF9AF#16, 0x8948#16, 0x9969#16, 0xA90A#16, 0xB92B#16]

/-- CRC_TABLE[0x50..0x5F] (R101 40_crc.md). -/
def crcRow5 : Vector Half 16 :=
  #v[0x5AF5#16, 0x4AD4#16, 0x7AB7#16, 0x6A96#16, 0x1A71#16, 0x0A50#16, 0x3A33#16, 0x2A12#16,
     0xDBFD#16, 0xCBDC#16, 0xFBBF#16, 0xEB9E#16, 0x9B79#16, 0x8B58#16, 0xBB3B#16, 0xAB1A#16]

/-- CRC_TABLE[0x60..0x6F] (R101 40_crc.md). -/
def crcRow6 : Vector Half 16 :=
  #v[0x6CA6#16, 0x7C87#16, 0x4CE4#16, 0x5CC5#16, 0x2C22#16, 0x3C03#16, 0x0C60#16, 0x1C41#16,
     0xEDAE#16, 0xFD8F#16, 0xCDEC#16, 0xDDCD#16, 0xAD2A#16, 0xBD0B#16, 0x8D68#16, 0x9D49#16]

/-- CRC_TABLE[0x70..0x7F] (R101 40_crc.md). -/
def crcRow7 : Vector Half 16 :=
  #v[0x7E97#16, 0x6EB6#16, 0x5ED5#16, 0x4EF4#16, 0x3E13#16, 0x2E32#16, 0x1E51#16, 0x0E70#16,
     0xFF9F#16, 0xEFBE#16, 0xDFDD#16, 0xCFFC#16, 0xBF1B#16, 0xAF3A#16, 0x9F59#16, 0x8F78#16]

/-- CRC_TABLE[0x80..0x8F] (R101 40_crc.md). -/
def crcRow8 : Vector Half 16 :=
  #v[0x9188#16, 0x81A9#16, 0xB1CA#16, 0xA1EB#16, 0xD10C#16, 0xC12D#16, 0xF14E#16, 0xE16F#16,
     0x1080#16, 0x00A1#16, 0x30C2#16, 0x20E3#16, 0x5004#16, 0x4025#16, 0x7046#16, 0x6067#16]

/-- CRC_TABLE[0x90..0x9F] (R101 40_crc.md). -/
def crcRow9 : Vector Half 16 :=
  #v[0x83B9#16, 0x9398#16, 0xA3FB#16, 0xB3DA#16, 0xC33D#16, 0xD31C#16, 0xE37F#16, 0xF35E#16,
     0x02B1#16, 0x1290#16, 0x22F3#16, 0x32D2#16, 0x4235#16, 0x5214#16, 0x6277#16, 0x7256#16]

/-- CRC_TABLE[0xA0..0xAF] (R101 40_crc.md). -/
def crcRowA : Vector Half 16 :=
  #v[0xB5EA#16, 0xA5CB#16, 0x95A8#16, 0x8589#16, 0xF56E#16, 0xE54F#16, 0xD52C#16, 0xC50D#16,
     0x34E2#16, 0x24C3#16, 0x14A0#16, 0x0481#16, 0x7466#16, 0x6447#16, 0x5424#16, 0x4405#16]

/-- CRC_TABLE[0xB0..0xBF] (R101 40_crc.md). -/
def crcRowB : Vector Half 16 :=
  #v[0xA7DB#16, 0xB7FA#16, 0x8799#16, 0x97B8#16, 0xE75F#16, 0xF77E#16, 0xC71D#16, 0xD73C#16,
     0x26D3#16, 0x36F2#16, 0x0691#16, 0x16B0#16, 0x6657#16, 0x7676#16, 0x4615#16, 0x5634#16]

/-- CRC_TABLE[0xC0..0xCF] (R101 40_crc.md). -/
def crcRowC : Vector Half 16 :=
  #v[0xD94C#16, 0xC96D#16, 0xF90E#16, 0xE92F#16, 0x99C8#16, 0x89E9#16, 0xB98A#16, 0xA9AB#16,
     0x5844#16, 0x4865#16, 0x7806#16, 0x6827#16, 0x18C0#16, 0x08E1#16, 0x3882#16, 0x28A3#16]

/-- CRC_TABLE[0xD0..0xDF] (R101 40_crc.md). -/
def crcRowD : Vector Half 16 :=
  #v[0xCB7D#16, 0xDB5C#16, 0xEB3F#16, 0xFB1E#16, 0x8BF9#16, 0x9BD8#16, 0xABBB#16, 0xBB9A#16,
     0x4A75#16, 0x5A54#16, 0x6A37#16, 0x7A16#16, 0x0AF1#16, 0x1AD0#16, 0x2AB3#16, 0x3A92#16]

/-- CRC_TABLE[0xE0..0xEF] (R101 40_crc.md). -/
def crcRowE : Vector Half 16 :=
  #v[0xFD2E#16, 0xED0F#16, 0xDD6C#16, 0xCD4D#16, 0xBDAA#16, 0xAD8B#16, 0x9DE8#16, 0x8DC9#16,
     0x7C26#16, 0x6C07#16, 0x5C64#16, 0x4C45#16, 0x3CA2#16, 0x2C83#16, 0x1CE0#16, 0x0CC1#16]

/-- CRC_TABLE[0xF0..0xFF] (R101 40_crc.md). -/
def crcRowF : Vector Half 16 :=
  #v[0xEF1F#16, 0xFF3E#16, 0xCF5D#16, 0xDF7C#16, 0xAF9B#16, 0xBFBA#16, 0x8FD9#16, 0x9FF8#16,
     0x6E17#16, 0x7E36#16, 0x4E55#16, 0x5E74#16, 0x2E93#16, 0x3EB2#16, 0x0ED1#16, 0x1EF0#16]

/-- CRC_TABLE: 256 constants (R44 10_state.md), laid out as R101 (40_crc.md) prints them: row = high nibble of i,
column = low nibble (DEDUCED, log entry 6: the source lists no table; the spec derives it). -/
def crcTable : Vector (Vector Half 16) 16 :=
  #v[crcRow0, crcRow1, crcRow2, crcRow3, crcRow4, crcRow5, crcRow6, crcRow7,
     crcRow8, crcRow9, crcRowA, crcRowB, crcRowC, crcRowD, crcRowE, crcRowF]

/-- CRC_TABLE[i] for i in 0..255. -/
def crcEntry (i : Byte) : Half := (crcTable[(i.extractLsb' 4 4).toNat])[(i.extractLsb' 0 4).toNat]

/-- One bit-serial step: shift left by one; if the bit shifted out was 1, XOR 0x1021 (R101, R104 40_crc.md). -/
def crcShift (c : Half) : Half :=
  if c.getLsbD 15 then (c <<< 1) ^^^ 0x1021#16 else c <<< 1

/-- Eight bit-serial steps. -/
def crcShift8 (c : Half) : Half :=
  crcShift (crcShift (crcShift (crcShift (crcShift (crcShift (crcShift (crcShift c)))))))

/-- `table_entry(i)` (R101 40_crc.md): the CRC of the single byte i, bit by bit. -/
def tableEntry (i : Byte) : Half := crcShift8 (i.setWidth 16 <<< 8)

/-- `update(crc, b)`, the table-driven update (R102 40_crc.md). -/
def crcUpdate (crc : Half) (b : Byte) : Half :=
  (crc <<< 8) ^^^ crcEntry (b ^^^ (crc >>> 8).setWidth 8)

/-- The bit-serial form of the update (R104 40_crc.md). No meaning uses it: it is what the table is checked against. -/
def crcUpdateSerial (crc : Half) (b : Byte) : Half := crcShift8 (crc ^^^ (b.setWidth 16 <<< 8))

/-- `crc16(xs)`: the left fold of update from 0x0000 (R103 40_crc.md). -/
def crc16 (xs : List Byte) : Half := xs.foldl crcUpdate 0x0000#16

/-- `hdr ++ bytes_le16(crc16(hdr))`: the frame of R122 (41_tx_encoder.md). -/
def sealed (hdr : List Byte) : List Byte := hdr ++ bytesLe16 (crc16 hdr)

/-- `emit(seal(hdr))` (R12 00_scope.md, R122 41_tx_encoder.md): the whole frame is appended to tx_out and its checksum
kept in TX_LAST_CRC, in one step (R129). -/
def emitSealed (hdr : List Byte) (s : State) : State :=
  { s with
    txLastCrc := crc16 hdr
    txOut     := s.txOut ++ sealed hdr }

/-- `record(o)`, also written `raise o` (R12 00_scope.md, R184 60_exceptions.md). -/
def record (o : RxResult) (s : State) : State := { s with status := recordedStatus o s.status }

/-- Acknowledging: the sticky bits that m selects are cleared (R172 43_control.md, R191 60_exceptions.md). -/
def clearSticky (m : Half) (s : State) : State := { s with status := clearedStatus m s.status }

/-- `cmd_error()`: STATUS.CMD_ERR <- 1 and nothing else (R174 43_control.md). -/
def cmdError (s : State) : State := { s with status := { s.status with cmdErr := true } }

/-- The receive state and position, written together: they always agree (R36 10_state.md). -/
def setRx (x : RxState) (n : Fin 22) (s : State) : State :=
  { s with
    status  := { s.status with rxState := x }
    rxCount := n }

/-- RX_STATE <- SEARCH; RX_COUNT <- 0 (R142, R146, R148, R159 42_rx_decoder.md). -/
def toSearch (s : State) : State := setRx .search 0 s

/-- RX_BUF[i] <- b (R160 42_rx_decoder.md). -/
def storeRx (i : Fin 22) (b : Byte) (s : State) : State := { s with rxBuf := s.rxBuf.set i.val b i.isLt }

/-- The u16 at offset k of a received frame: `le16(f[k], f[k+1])` (R58 20_memory.md). -/
def frameHalf (f : Vector Byte 22) (k : Nat) (h : k + 1 < 22 := by decide) : Half := le16 f[k] f[k + 1]

/-- f[0..19], the bytes the checksum covers (R151 42_rx_decoder.md). -/
def checkedBytes (f : Vector Byte 22) : List Byte := f.toList.take 20

/-- The diagnostics of a completed frame, loaded whatever its outcome (R152, R158 42_rx_decoder.md). -/
def loadHeader (s : State) : State :=
  { s with
    rxCtrl    := s.rxBuf[2]
    rxLen     := frameHalf s.rxBuf 3
    rxSeq     := frameHalf s.rxBuf 5
    rxCmd     := s.rxBuf[7]
    rxCrcRecv := frameHalf s.rxBuf 20
    rxCrcCalc := crc16 (checkedBytes s.rxBuf) }

/-- `load_fields(f)`: all seven field registers in one step (R153 42_rx_decoder.md). -/
def loadFields (s : State) : State :=
  { s with
    yawRaw    := frameHalf s.rxBuf 8
    pitchRaw  := frameHalf s.rxBuf 10
    rollRaw   := frameHalf s.rxBuf 12
    yawRate   := frameHalf s.rxBuf 14
    pitchRate := frameHalf s.rxBuf 16
    rollRate  := frameHalf s.rxBuf 18
    pitchDd   := pitchDdOf (frameHalf s.rxBuf 10) }

/-- The reset input (R200, R201 70_reset_and_hazards.md): every element takes its reset value (R47 10_state.md), in
one step between two commands; bytes already emitted stay in tx_out. The parameter is not state and stays, and what
the host has already put on the port after the reset is still to come (DESIGN CHOICE, log entry 10). -/
def assertReset (s : State) : State :=
  { State.reset with
    txOut  := s.txOut
    params := s.params
    port   := s.port }

end Sys2Proof.Machine
end

