-- ==== Sys2Proof/Machine/Control.lean ====
section
/-! DEFINITION. The control commands (R170 to R175 43_control.md). -/

namespace Sys2Proof.Machine

/-- NOP: no state changes (R170 43_control.md). -/
def execNop (s : State) : Host.Outcome State Fault Refusal := .next s

/-- CFG_WRITE m: CONFIG.SCAN_EN <- m[0]; CONFIG.CRC_STRICT <- m[1] (R171 43_control.md). -/
def execCfgWrite (m : Half) (s : State) : Host.Outcome State Fault Refusal := .next { s with config := configOf m }

/-- STATUS_CLEAR m: clears the sticky bits that m selects (R172 43_control.md). -/
def execStatusClear (m : Half) (s : State) : Host.Outcome State Fault Refusal := .next (clearSticky m s)

/-- ILLEGAL: cmd_error() (R173, R174 43_control.md). -/
def execIllegal (s : State) : Host.Outcome State Fault Refusal := .next (cmdError s)

end Sys2Proof.Machine
end

