-- ==== Sys2Proof/Machine/Crc.lean ====
section
/-! DEFINITION. The CRC commands (R107 to R109 40_crc.md). -/

namespace Sys2Proof.Machine

/-- CRC_INIT: CRC_ACC <- 0x0000 (R107 40_crc.md). -/
def execCrcInit (s : State) : Host.Outcome State Fault Refusal := .next { s with crcAcc := 0x0000#16 }

/-- CRC_BYTE b: CRC_ACC <- update(CRC_ACC, b) (R108 40_crc.md). -/
def execCrcByte (b : Byte) (s : State) : Host.Outcome State Fault Refusal :=
  .next { s with crcAcc := crcUpdate s.crcAcc b }

end Sys2Proof.Machine
end

