-- ==== Sys2Proof/Machine/Rx.lean ====
section
/-! DEFINITION. The frame decoder (R140 to R164 42_rx_decoder.md). -/

namespace Sys2Proof.Machine

/-- The first byte of the STX (R59 20_memory.md). -/
def stx0 : Byte := 0x55#8

/-- The second byte of the STX (R59 20_memory.md). -/
def stx1 : Byte := 0x66#8

/-- The checks of `complete()` in the source's order, on a state whose header is loaded: STX, length, checksum (R149 to
R152 42_rx_decoder.md, R186 60_exceptions.md). -/
def frameOutcome (s : State) : RxResult :=
  if frameHalf s.rxBuf 0 ≠ 0x6655#16 then .syncError
  else if s.rxLen ≠ 12#16 then .lengthError
  else if s.rxCrcCalc = s.rxCrcRecv then .ok
  else if s.config.crcStrict then .crcRejected
  else .okCrcMismatch

/-- The outcomes that load the field registers (R153 42_rx_decoder.md, R181 60_exceptions.md). -/
def RxResult.accepted : RxResult → Bool
  | .none => false
  | .ok => true
  | .okCrcMismatch => true
  | .syncError => false
  | .lengthError => false
  | .crcRejected => false
  | .timeout => false
  | .shortFrame => false

/-- `complete()` (R152 42_rx_decoder.md), run once RX_BUF holds all 22 bytes: the header is loaded, the decoder
returns to SEARCH (R148), and the checks decide whether the fields are loaded and which outcome is recorded. -/
def complete (s : State) : State :=
  let s' := toSearch (loadHeader s)
  let o := frameOutcome s'
  record o (if o.accepted then loadFields s' else s')

/-- `search_step(b)` (R144 42_rx_decoder.md): CONFIG.SCAN_EN is read here and nowhere else (R161). -/
def searchStep (b : Byte) (s : State) : State :=
  if s.config.scanEn then
    if b = stx0 then setRx .have55 1 (storeRx 0 b s) else s
  else setRx .collect 1 (storeRx 0 b s)

/-- `have55_step(b)` (R146 42_rx_decoder.md): a repeated 0x55 replaces the held one. -/
def have55Step (b : Byte) (s : State) : State :=
  if b = stx1 then setRx .collect 2 (storeRx 1 b s)
  else if b = stx0 then s
  else toSearch s

/-- `collect_step(b)` (R147 42_rx_decoder.md): the byte is stored at RX_COUNT; the 22nd completes the frame in the
same step (R148), so RX_COUNT never holds 22. -/
def collectStep (b : Byte) (s : State) : State :=
  if h : s.rxCount.val + 1 < 22 then setRx .collect ⟨s.rxCount.val + 1, h⟩ (storeRx s.rxCount b s)
  else complete (storeRx s.rxCount b s)

/-- RX_BYTE b: one received byte to the decoder (R143 42_rx_decoder.md). -/
def execRxByte (b : Byte) (s : State) : Host.Outcome State Fault Refusal :=
  match s.status.rxState with
  | .search => .next (searchStep b s)
  | .have55 => .next (have55Step b s)
  | .collect => .next (collectStep b s)

/-- RX_RESET: RX_STATE <- SEARCH; RX_COUNT <- 0; no outcome (R142 42_rx_decoder.md). -/
def execRxReset (s : State) : Host.Outcome State Fault Refusal := .next (toSearch s)

/-- The outcome of an abort in each receive state (R159 42_rx_decoder.md, 90_conflicts.md C4). -/
def abortOutcome : RxState → RxResult
  | .search => .timeout
  | .have55 => .timeout
  | .collect => .shortFrame

/-- RX_ABORT: the host's deadline has passed (R159 42_rx_decoder.md). -/
def execRxAbort (s : State) : Host.Outcome State Fault Refusal :=
  .next (record (abortOutcome s.status.rxState) (toSearch s))

end Sys2Proof.Machine
end

