-- ==== Sys2Proof/Machine/Tx.lean ====
section
/-! DEFINITION. The frame encoder: the operand commands and the three builders (R120 to R131 41_tx_encoder.md). -/

namespace Sys2Proof.Machine

/-- SET_YAW h: YAW_OUT <- h (R123 41_tx_encoder.md). -/
def execSetYaw (h : Half) (s : State) : Host.Outcome State Fault Refusal := .next { s with yawOut := h }

/-- SET_PITCH h: PITCH_OUT <- h (R124 41_tx_encoder.md). -/
def execSetPitch (h : Half) (s : State) : Host.Outcome State Fault Refusal := .next { s with pitchOut := h }

/-- STX, control flag 0x01, length, sequence 0x0000, command id: the first eight bytes of every outbound frame (R120,
R121 41_tx_encoder.md). -/
def frameHeader (len : Half) (cmd : Byte) : List Byte :=
  [0x55#8, 0x66#8, 0x01#8] ++ bytesLe16 len ++ bytesLe16 0x0000#16 ++ [cmd]

/-- The 12 bytes the control frame's checksum covers (R125 41_tx_encoder.md, 90_conflicts.md C2). -/
def controlHeader (yaw pitch : Half) : List Byte :=
  frameHeader 0x0004#16 0x0E#8 ++ bytesLe16 yaw ++ bytesLe16 pitch

/-- The 9 bytes the home frame's checksum covers, in each variant (R126 41_tx_encoder.md, 90_conflicts.md C1). Under
TABLE the length field is 0x0000 though one payload byte follows. -/
def homeHeader : HomeVariant → List Byte
  | .table => frameHeader 0x0000#16 0x01#8 ++ [0x01#8]
  | .vec8 => frameHeader 0x0001#16 0x08#8 ++ [0x01#8]

/-- The 8 bytes the attitude request's checksum covers (R127 41_tx_encoder.md). -/
def attreqHeader : List Byte := frameHeader 0x0000#16 0x0D#8

/-- TX_CONTROL: emits the 14-byte control frame (R125 41_tx_encoder.md). -/
def execTxControl (s : State) : Host.Outcome State Fault Refusal :=
  .next (emitSealed (controlHeader s.yawOut s.pitchOut) s)

/-- TX_HOME: emits the 11-byte home frame (R126 41_tx_encoder.md). -/
def execTxHome (s : State) : Host.Outcome State Fault Refusal :=
  .next (emitSealed (homeHeader s.params.homeVariant) s)

/-- TX_ATTREQ: emits the 10-byte attitude-request frame (R127 41_tx_encoder.md). -/
def execTxAttreq (s : State) : Host.Outcome State Fault Refusal := .next (emitSealed attreqHeader s)

end Sys2Proof.Machine
end

