-- ==== Sys2Proof/Machine/Dispatch.lean ====
section
/-! DEFINITION. The meaning of every command, one arm per constructor of Instr. -/

namespace Sys2Proof.Machine

def exec (i : Instr) (s : State) : Host.Outcome State Fault Refusal :=
  match i with
  | .nop => Sys2Proof.Machine.execNop s
  | .crcInit => Sys2Proof.Machine.execCrcInit s
  | .crcByte b => Sys2Proof.Machine.execCrcByte b s
  | .setYaw h => Sys2Proof.Machine.execSetYaw h s
  | .setPitch h => Sys2Proof.Machine.execSetPitch h s
  | .txControl => Sys2Proof.Machine.execTxControl s
  | .txHome => Sys2Proof.Machine.execTxHome s
  | .txAttreq => Sys2Proof.Machine.execTxAttreq s
  | .rxReset => Sys2Proof.Machine.execRxReset s
  | .rxByte b => Sys2Proof.Machine.execRxByte b s
  | .rxAbort => Sys2Proof.Machine.execRxAbort s
  | .cfgWrite m => Sys2Proof.Machine.execCfgWrite m s
  | .statusClear m => Sys2Proof.Machine.execStatusClear m s
  | .illegal => Sys2Proof.Machine.execIllegal s

end Sys2Proof.Machine
end

