-- ==== Sys2Proof/Machine/ReadPort.lean ====
section
/-! DEFINITION. The read port (R51 to R57 20_memory.md): a pure observation of the state, so a read has no side
effect. It also serves debug (R195 60_exceptions.md). -/

namespace Sys2Proof.Machine

/-- The two windows of the address map: RX_BUF at 0x020 + i (R56), CRC_TABLE at 0x100 + i (R55). Every other address
is reserved and reads 0 (R53 20_memory.md). -/
def readWindow (s : State) (n : Nat) : Word :=
  if h : 0x020 ≤ n ∧ n < 0x036 then zext8 (s.rxBuf[n - 0x020]'(by omega))
  else if 0x100 ≤ n ∧ n < 0x200 then zext16 (crcEntry (BitVec.ofNat 8 (n - 0x100)))
  else 0#32

/-- `Read(addr)`: the address map of R52 (20_memory.md), each register extended to 32 bits as R54 says. -/
def readPort (s : State) (a : PortAddr) : Word :=
  match a.toNat with
  | 0x000 => zext16 s.crcAcc
  | 0x001 => zext16 (configWord s.config)
  | 0x002 => zext16 (statusWord s.status)
  | 0x003 => BitVec.ofNat 32 s.rxCount.val
  | 0x004 => sext16 s.yawOut
  | 0x005 => sext16 s.pitchOut
  | 0x006 => zext16 s.txLastCrc
  | 0x008 => sext16 s.yawRaw
  | 0x009 => sext16 s.pitchRaw
  | 0x00A => sext16 s.rollRaw
  | 0x00B => sext16 s.yawRate
  | 0x00C => sext16 s.pitchRate
  | 0x00D => sext16 s.rollRate
  | 0x00E => s.pitchDd
  | 0x010 => zext8 s.rxCtrl
  | 0x011 => zext16 s.rxLen
  | 0x012 => zext16 s.rxSeq
  | 0x013 => zext8 s.rxCmd
  | 0x014 => zext16 s.rxCrcRecv
  | 0x015 => zext16 s.rxCrcCalc
  | n => readWindow s n

end Sys2Proof.Machine
end

