-- ==== Sys2Proof/Machine/Step.lean ====
section
/-! DEFINITION. One step: the block takes the oldest event on the port (R13 00_scope.md, R22 10_state.md, R67
20_memory.md). -/

namespace Sys2Proof.Machine

/-- One step. A command word is decoded and executed (R13 00_scope.md); the reset input takes effect between two
commands (R200 70_reset_and_hazards.md); with nothing on the port the state does not change (R196 60_exceptions.md).
The port as a list of pending events is the model's (DESIGN CHOICE, log entry 1, safe). -/
def step (s : State) : Host.Outcome State Fault Refusal :=
  match s.port with
  | [] => .next s
  | .command w :: rest => exec (decode w) { s with port := rest }
  | .reset :: rest => .next (assertReset { s with port := rest })

/-- s with one command word put on the port ahead of everything else: what the host's write of that command is to the
block (log entry 2). Bits of w above nbits are 0. -/
def State.withFetchWord (s : State) (nbits w : Nat) : State :=
  { s with port := .command (BitVec.ofNat 32 (w % 2 ^ nbits)) :: s.port }

end Sys2Proof.Machine
end

