-- ==== Sys2Proof/Machine/Assembler.lean ====
section
/-! DEFINITION. The assembler syntax of R79 (30_encoding.md) and the written pseudo-instructions of R80: one line of
text to the commands it stands for, or an assembly error. No command's meaning depends on it. How names,
spaces, numbers and lists may be spelled beyond R79's words is the model's choice (DESIGN CHOICE, log entry 11, safe). -/

namespace Sys2Proof.Machine

/-- The text of each mnemonic (R74, R80 30_encoding.md). -/
def mnemonicNames : List (String × Mnemonic) :=
  [("NOP", .nop), ("CRC_INIT", .crcInit), ("CRC_BYTE", .crcByte), ("SET_YAW", .setYaw), ("SET_PITCH", .setPitch),
   ("TX_CONTROL", .txControl), ("TX_HOME", .txHome), ("TX_ATTREQ", .txAttreq), ("RX_RESET", .rxReset),
   ("RX_BYTE", .rxByte), ("RX_ABORT", .rxAbort), ("CFG_WRITE", .cfgWrite), ("STATUS_CLEAR", .statusClear)] ++
  [("CRC", .crc), ("SEND_CONTROL", .sendControl), ("REQUEST_ATTITUDE", .requestAttitude), ("RX_BYTES", .rxBytes),
   ("ACK_ALL", .ackAll), ("CFG_REFERENCE", .cfgReference), ("CFG_STRICT", .cfgStrict)]

/-- The text of each field name (R79 30_encoding.md). -/
def maskNames : List (String × MaskName) :=
  [("SCAN_EN", .scanEn), ("CRC_STRICT", .crcStrict), ("DONE", .done), ("OVERRUN", .overrun), ("CMD_ERR", .cmdErr)]

/-- Looks a text up in a table of names. -/
def lookupName {α : Type} (table : List (String × α)) (cs : List Char) : Option α :=
  (table.find? (fun e => e.1.toList == cs)).map Prod.snd

/-- The pieces of a text between separators; a text without one is one piece. -/
def splitAtChar (sep : Char) : List Char → List (List Char)
  | [] => [[]]
  | c :: cs =>
    if c = sep then [] :: splitAtChar sep cs
    else match splitAtChar sep cs with
      | [] => [[c]]
      | p :: ps => (c :: p) :: ps

/-- A text without its leading and trailing spaces; a tab is no space (DESIGN CHOICE, log entry 11). -/
def trimSpaces (cs : List Char) : List Char :=
  ((cs.dropWhile (· == ' ')).reverse.dropWhile (· == ' ')).reverse

/-- The value of a digit, at most 15; a hexadecimal letter may have either case (DESIGN CHOICE, log entry 11). -/
def digitValue (c : Char) : Option Nat :=
  let n := c.toNat
  if 0x30 ≤ n ∧ n ≤ 0x39 then some (n - 0x30)
  else if 0x41 ≤ n ∧ n ≤ 0x46 then some (n - 0x41 + 10)
  else if 0x61 ≤ n ∧ n ≤ 0x66 then some (n - 0x61 + 10)
  else none

/-- The value of the digits cs in a base, after acc. -/
def digitsValue (base : Nat) : Nat → List Char → Option Nat
  | acc, [] => some acc
  | acc, c :: cs =>
    match digitValue c with
    | some d => if d < base then digitsValue base (acc * base + d) cs else none
    | none => none

/-- A number of at least one digit, with any number of leading zeros (DESIGN CHOICE, log entry 11). -/
def numberValue (base : Nat) (cs : List Char) : Option Nat :=
  if cs.isEmpty then none else digitsValue base 0 cs

/-- A written operand: hexadecimal with 0x, signed decimal, or field names joined by `|` (R79 30_encoding.md). R79 is
silent on the spelling: `-0` is read as the decimal 0 whatever the format, leading zeros are accepted, a leading `+`, the
prefix `0X` and spaces beside a `|` are refused (DESIGN CHOICE, log entry 11, safe). -/
def parseOperand (cs : List Char) : Option Operand :=
  match cs with
  | '0' :: 'x' :: ds => (numberValue 16 ds).map .hex
  | '-' :: ds => (numberValue 10 ds).map (fun n => .dec (-(n : Int)))
  | ds =>
    match numberValue 10 ds with
    | some n => some (.dec n)
    | none => ((splitAtChar '|' ds).mapM (lookupName maskNames)).map .names

/-- Format B: a decimal 0..255 or a hexadecimal 0x00..0xFF (R79 30_encoding.md). -/
def byteOperand : Operand → Option Byte
  | .dec n => if 0 ≤ n ∧ n ≤ 255 then some (BitVec.ofInt 8 n) else none
  | .hex n => if n ≤ 0xFF then some (BitVec.ofNat 8 n) else none
  | .names _ => none

/-- Format H: a signed decimal encoded as `u16of(half)`, or a hexadecimal encoded as is (R79 30_encoding.md). -/
def halfOperand : Operand → Option Half
  | .dec n => if -32768 ≤ n ∧ n ≤ 32767 then some (u16of n) else none
  | .hex n => if n ≤ 0xFFFF then some (BitVec.ofNat 16 n) else none
  | .names _ => none

/-- The fields a CFG_WRITE mask may name (R79 30_encoding.md). -/
def cfgWriteBit : MaskName → Option Half
  | .scanEn => some 0x0001#16
  | .crcStrict => some 0x0002#16
  | .done => none
  | .overrun => none
  | .cmdErr => none

/-- The fields a STATUS_CLEAR mask may name (R79 30_encoding.md). -/
def statusClearBit : MaskName → Option Half
  | .scanEn => none
  | .crcStrict => none
  | .done => some 0x0004#16
  | .overrun => some 0x0080#16
  | .cmdErr => some 0x0100#16

/-- Format M: a hexadecimal with no forbidden bit, or field names of this opcode, the empty list written `0` (R79
30_encoding.md). A forbidden bit is an assembly error: "The assembler never emits an illegal word". A name written twice is ORed, so
it counts once, and any decimal 0 (`00`, `-0`) is the empty list (DESIGN CHOICE, log entry 11, safe). -/
def maskOperand (forbidden : Half) (bit : MaskName → Option Half) : Operand → Option Half
  | .dec n => if n = 0 then some 0#16 else none
  | .hex n =>
    if n ≤ 0xFFFF ∧ BitVec.ofNat 16 n &&& forbidden = 0#16 then some (BitVec.ofNat 16 n) else none
  | .names l => (l.mapM bit).map (fun bits => bits.foldl (· ||| ·) 0#16)

/-- One line, its mnemonic and operands already read (R79, R80 30_encoding.md). -/
def assembleParts (m : Mnemonic) (ops : List Operand) : Option (List Instr) :=
  match m, ops with
  | .nop, [] => some [.nop]
  | .crcInit, [] => some [.crcInit]
  | .crcByte, [o] => (byteOperand o).map (fun b => [.crcByte b])
  | .setYaw, [o] => (halfOperand o).map (fun h => [.setYaw h])
  | .setPitch, [o] => (halfOperand o).map (fun h => [.setPitch h])
  | .txControl, [] => some [.txControl]
  | .txHome, [] => some [.txHome]
  | .txAttreq, [] => some [.txAttreq]
  | .rxReset, [] => some [.rxReset]
  | .rxByte, [o] => (byteOperand o).map (fun b => [.rxByte b])
  | .rxAbort, [] => some [.rxAbort]
  | .cfgWrite, [o] => (maskOperand cfgWriteForbidden cfgWriteBit o).map (fun w => [.cfgWrite w])
  | .statusClear, [o] => (maskOperand statusClearForbidden statusClearBit o).map (fun w => [.statusClear w])
  | .crc, os => (os.mapM byteOperand).map (fun bs => expandPseudo (.crc bs))
  | .sendControl, [y, p] =>
    match halfOperand y, halfOperand p with
    | some hy, some hp => some (expandPseudo (.sendControl hy hp))
    | _, _ => none
  | .requestAttitude, [] => some (expandPseudo .requestAttitude)
  | .rxBytes, os => (os.mapM byteOperand).map (fun bs => expandPseudo (.rxBytes bs))
  | .ackAll, [] => some (expandPseudo .ackAll)
  | .cfgReference, [] => some (expandPseudo .cfgReference)
  | .cfgStrict, [] => some (expandPseudo .cfgStrict)
  | _, _ => none

/-- The operands of a line: none, or a list separated by commas. -/
def parseOperands (cs : List Char) : Option (List Operand) :=
  let t := trimSpaces cs
  if t.isEmpty then some []
  else (splitAtChar ',' t).mapM (fun p => parseOperand (trimSpaces p))

/-- One written line to its commands; none is an assembly error (R79, R80 30_encoding.md). -/
def assemble (line : String) : Option (List Instr) :=
  let cs := trimSpaces line.toList
  let head := cs.takeWhile (· != ' ')
  match lookupName mnemonicNames head, parseOperands (cs.dropWhile (· != ' ')) with
  | some m, some ops => assembleParts m ops
  | _, _ => none

end Sys2Proof.Machine
end

