-- ==== Sys2Proof/Safety.lean ====
section
/-! DEFINITION. What claims about the machine are stated with: the invariants of R48 and R49 (10_state.md), which
commands may record an outcome (R182 60_exceptions.md), and runs of several commands. -/

namespace Sys2Proof.Machine

/-- R29, R36, R48 (10_state.md): RX_STATE and RX_COUNT agree, and a held byte in HAVE55 is 0x55. -/
abbrev RxAgrees (s : State) : Prop :=
  (s.status.rxState = .search ↔ s.rxCount.val = 0) ∧
  (s.status.rxState = .have55 → s.rxCount.val = 1 ∧ s.rxBuf[0] = stx0) ∧
  (s.status.rxState = .collect → 1 ≤ s.rxCount.val ∧ s.rxCount.val ≤ 21)

/-- The seven registers of R49 (10_state.md) all hold 0, their reset value. -/
abbrev FieldsAtReset (s : State) : Prop :=
  s.yawRaw = 0#16 ∧ s.pitchRaw = 0#16 ∧ s.rollRaw = 0#16 ∧ s.yawRate = 0#16 ∧ s.pitchRate = 0#16 ∧
  s.rollRate = 0#16 ∧ s.pitchDd = 0#32

/-- R49 (10_state.md), as far as one state shows it: PITCH_DD is decoded from the PITCH_RAW beside it, or all seven
field registers are at reset. -/
abbrev FieldsAgree (s : State) : Prop := FieldsAtReset s ∨ s.pitchDd = pitchDdOf s.pitchRaw

/-- R48 (10_state.md), as far as one state shows it: DONE or OVERRUN set means that an outcome was recorded. -/
abbrev OutcomeAgrees (s : State) : Prop :=
  (s.status.done = true → s.status.result ≠ .none) ∧ (s.status.overrun = true → s.status.result ≠ .none)

/-- The invariant of the block. -/
abbrev BlockInv (s : State) : Prop := RxAgrees s ∧ FieldsAgree s ∧ OutcomeAgrees s

/-- The partial frame began with the STX: what R162 (42_rx_decoder.md) calls taken with SCAN_EN = 1. -/
abbrev InSync (s : State) : Prop :=
  s.status.rxState = .collect → 2 ≤ s.rxCount.val ∧ s.rxBuf[0] = stx0 ∧ s.rxBuf[1] = stx1

/-- R182 (60_exceptions.md): the executions that record an outcome are RX_ABORT, and RX_BYTE in the step that stores
frame byte 21. -/
def recordsOutcome (i : Instr) (s : State) : Bool :=
  match i with
  | .nop => false
  | .crcInit => false
  | .crcByte _ => false
  | .setYaw _ => false
  | .setPitch _ => false
  | .txControl => false
  | .txHome => false
  | .txAttreq => false
  | .rxReset => false
  | .rxByte _ => decide (s.status.rxState = .collect ∧ s.rxCount.val = 21)
  | .rxAbort => true
  | .cfgWrite _ => false
  | .statusClear _ => false
  | .illegal => false

/-- The three commands that emit a frame (R182 60_exceptions.md, R129 41_tx_encoder.md). -/
def isTx : Instr → Bool
  | .nop => false
  | .crcInit => false
  | .crcByte _ => false
  | .setYaw _ => false
  | .setPitch _ => false
  | .txControl => true
  | .txHome => true
  | .txAttreq => true
  | .rxReset => false
  | .rxByte _ => false
  | .rxAbort => false
  | .cfgWrite _ => false
  | .statusClear _ => false
  | .illegal => false

/-- The whole frame a command emits; none for a command that is no TX command (R125 to R127 41_tx_encoder.md). -/
def txFrame (i : Instr) (s : State) : List Byte :=
  match i with
  | .nop => []
  | .crcInit => []
  | .crcByte _ => []
  | .setYaw _ => []
  | .setPitch _ => []
  | .txControl => sealed (controlHeader s.yawOut s.pitchOut)
  | .txHome => sealed (homeHeader s.params.homeVariant)
  | .txAttreq => sealed attreqHeader
  | .rxReset => []
  | .rxByte _ => []
  | .rxAbort => []
  | .cfgWrite _ => []
  | .statusClear _ => []
  | .illegal => []

/-- The two commands of the CRC unit (R107, R108 40_crc.md). -/
def isCrc : Instr → Bool
  | .nop => false
  | .crcInit => true
  | .crcByte _ => true
  | .setYaw _ => false
  | .setPitch _ => false
  | .txControl => false
  | .txHome => false
  | .txAttreq => false
  | .rxReset => false
  | .rxByte _ => false
  | .rxAbort => false
  | .cfgWrite _ => false
  | .statusClear _ => false
  | .illegal => false

/-- The control commands (R170 to R175 43_control.md). -/
def isControl : Instr → Bool
  | .nop => true
  | .crcInit => false
  | .crcByte _ => false
  | .setYaw _ => false
  | .setPitch _ => false
  | .txControl => false
  | .txHome => false
  | .txAttreq => false
  | .rxReset => false
  | .rxByte _ => false
  | .rxAbort => false
  | .cfgWrite _ => true
  | .statusClear _ => true
  | .illegal => true

/-- The commands of a list, one after the other (R13 00_scope.md, R67 20_memory.md). -/
def execAll : List Instr → State → Host.Outcome State Fault Refusal
  | [], s => .next s
  | i :: is, s =>
    match exec i s with
    | .next t => execAll is t
    | .fault r => .fault r
    | .refused r => .refused r

end Sys2Proof.Machine
end

