-- ==== Sys2Proof/Certificates/Slice0/Obligations.lean ====
section
/-! DEFINITION. The statements for the provers. Each result is an equation with the whole next state, so it is also the
command's completion and its frame: every field it does not name is unchanged. -/

open Sys2Proof Sys2Proof.Machine

/-! ### Encoding (30_encoding.md) -/

/-- Words written out from the encodings and examples of R74, R79 and the decode vectors K1 to K14
(95_test_vectors.md). -/
def Obligations.SpecWordsDecode : Prop :=
  decode 0x00000000#32 = .nop ∧ decode 0x01000000#32 = .crcInit ∧ decode 0x02000055#32 = .crcByte 0x55#8 ∧
  decode 0x100001C2#32 = .setYaw 0x01C2#16 ∧ decode 0x1100FED4#32 = .setPitch 0xFED4#16 ∧
  decode 0x20000000#32 = .txControl ∧ decode 0x21000000#32 = .txHome ∧ decode 0x22000000#32 = .txAttreq ∧
  decode 0x30000000#32 = .rxReset ∧ decode 0x310000FC#32 = .rxByte 0xFC#8 ∧ decode 0x32000000#32 = .rxAbort ∧
  decode 0x40000003#32 = .cfgWrite 0x0003#16 ∧ decode 0x41000184#32 = .statusClear 0x0184#16 ∧
  decode 0xFF000000#32 = .illegal ∧ decode 0x02000100#32 = .illegal ∧ decode 0x10FF0001#32 = .illegal

/-- Every well-formed command is read back from its own word. The word that stands for ILLEGAL is the model's choice
(log entry 7). -/
def Obligations.DecodeOfEncodeIsSame : Prop :=
  ∀ i : Instr, i.wellFormed = true → decode (encode i) = i

/-- A word that decodes to a command other than ILLEGAL is the word of that command: no bit of it is dropped. -/
def Obligations.EncodeOfDecodeIsSame : Prop :=
  ∀ w : Word, decode w ≠ .illegal → (decode w).wellFormed = true ∧ encode (decode w) = w

/-- R76, R173: exactly these words are illegal, and an illegal word sets CMD_ERR and does nothing else. That the step
also moves the port, a list, past the word is the model's choice (log entry 1). -/
def Obligations.IllegalWordsExactly : Prop :=
  (∀ w : Word, decode w = .illegal ↔
    (w.extractLsb' 16 8 ≠ 0#8 ∨
     w.extractLsb' 24 8 ∉ [0x00#8, 0x01#8, 0x02#8, 0x10#8, 0x11#8, 0x20#8, 0x21#8, 0x22#8, 0x30#8, 0x31#8, 0x32#8,
       0x40#8, 0x41#8] ∨
     (w.extractLsb' 24 8 ∈ [0x00#8, 0x01#8, 0x20#8, 0x21#8, 0x22#8, 0x30#8, 0x32#8] ∧ w.extractLsb' 0 16 ≠ 0#16) ∨
     (w.extractLsb' 24 8 ∈ [0x02#8, 0x31#8] ∧ w.extractLsb' 8 8 ≠ 0#8) ∨
     (w.extractLsb' 24 8 = 0x40#8 ∧ w.extractLsb' 0 16 &&& ~~~0x0003#16 ≠ 0#16) ∨
     (w.extractLsb' 24 8 = 0x41#8 ∧ w.extractLsb' 0 16 &&& ~~~0x0184#16 ≠ 0#16))) ∧
  (∀ (s : State) (w : Word) (rest : List HostEvent), s.port = .command w :: rest → decode w = .illegal →
    step s = .next { s with port := rest, status := { s.status with cmdErr := true } })

/-- R72: a non-zero reserved field is illegal whatever the op. -/
def Obligations.ReservedFieldIsIllegal : Prop :=
  ∀ w : Word, w.extractLsb' 16 8 ≠ 0#8 → decode w = .illegal

/-- The decoder and the match and mask rows of spec/opcode_table.json agree on every word, no word matches two rows,
and a word that matches none is ILLEGAL (R74, R75). -/
def Obligations.OpcodeTableAgrees : Prop :=
  (∀ (w : Word) (r : OpcodeRow), r ∈ opcodeRows → ((decode w).op? = some r.op ↔ r.covers w)) ∧
  (∀ (w : Word) (r q : OpcodeRow), r ∈ opcodeRows → q ∈ opcodeRows → r.covers w → q.covers w → r = q) ∧
  (∀ w : Word, (∀ r ∈ opcodeRows, ¬ r.covers w) → decode w = .illegal)

/-- R79: the assembler never emits an illegal word, and every command it writes is well formed. -/
def Obligations.AssemblerWritesLegalWords : Prop :=
  ∀ (line : String) (is : List Instr) (i : Instr), assemble line = some is → i ∈ is →
    i ≠ .illegal ∧ i.wellFormed = true ∧ decode (encode i) = i

/-! ### A step (00_scope.md, 70_reset_and_hazards.md) -/

/-- R13: a step is the execution of one command word: the word at the head of the port, decoded, on the state with the
port moved past it. The port as a list is the model's (log entry 1). -/
def Obligations.StepRunsDecoded : Prop :=
  ∀ (s : State) (w : Word) (rest : List HostEvent), s.port = .command w :: rest →
    step s = exec (decode w) { s with port := rest }

/-- R196: with no command issued, the state does not change. -/
def Obligations.IdleBlockIsUnchanged : Prop :=
  ∀ s : State, s.port = [] → step s = .next s

/-- R200, R201, R47: the reset input gives every element its reset value in one step and leaves tx_out as it is. What
is still on the port stays there, and the parameter stays (the model's choice, log entry 10). -/
def Obligations.ResetInputSetsResetValues : Prop :=
  ∀ (s : State) (rest : List HostEvent), s.port = .reset :: rest →
    ∃ t, step s = .next t ∧ t.crcAcc = 0x0000#16 ∧ readPort t 0x001#10 = 0x00000001#32 ∧
      readPort t 0x002#10 = 0x00000000#32 ∧ t.config = ⟨true, false⟩ ∧
      t.status = ⟨.search, false, .none, false, false⟩ ∧ t.rxCount = 0 ∧
      t.yawOut = 0x0000#16 ∧ t.pitchOut = 0x0000#16 ∧ t.txLastCrc = 0x0000#16 ∧
      t.yawRaw = 0x0000#16 ∧ t.pitchRaw = 0x0000#16 ∧ t.rollRaw = 0x0000#16 ∧
      t.yawRate = 0x0000#16 ∧ t.pitchRate = 0x0000#16 ∧ t.rollRate = 0x0000#16 ∧ t.pitchDd = 0#32 ∧
      t.rxCtrl = 0#8 ∧ t.rxLen = 0#16 ∧ t.rxSeq = 0#16 ∧ t.rxCmd = 0#8 ∧ t.rxCrcRecv = 0#16 ∧ t.rxCrcCalc = 0#16 ∧
      (∀ k : Fin 22, t.rxBuf[k] = 0x00#8) ∧ t.txOut = s.txOut ∧ t.params = s.params ∧ t.port = rest

/-- R180: the block never traps and never changes the order of commands: every step answers a next state, takes exactly
the oldest event, and leaves the parameter (log entry 3) alone. -/
def Obligations.EveryStepGoesOn : Prop :=
  ∀ s : State, ∃ t, step s = .next t ∧ t.port = s.port.tail ∧ t.params = s.params

/-- The invariant of R48 and R49 holds right after reset. -/
def Obligations.ResetStateMeetsInvariant : Prop := BlockInv State.reset

/-- R36, R48, R49: every step keeps the invariant, from every state that meets it. -/
def Obligations.EveryStepKeepsInvariant : Prop :=
  ∀ s t : State, BlockInv s → step s = .next t → BlockInv t

/-! ### CRC engine (40_crc.md) -/

/-- R101: each table entry is the CRC of its index byte, bit by bit, and the table gives the source's one vector. -/
def Obligations.CrcTableIsBitSerial : Prop :=
  (∀ i : Byte, crcEntry i = tableEntry i) ∧
  crc16 [0x55#8, 0x66#8, 0x01#8, 0x00#8, 0x00#8, 0x00#8, 0x00#8, 0x0D#8] = 0x05E8#16

/-- R104: the table-driven update equals the bit-serial computation, for every crc and byte. -/
def Obligations.CrcUpdateIsBitSerial : Prop :=
  ∀ (crc : Half) (b : Byte), crcUpdate crc b = crcUpdateSerial crc b

/-- R103: the checksum of the empty list is 0, and of one byte more, one update more. -/
def Obligations.ChecksumIsFold : Prop :=
  crc16 [] = 0x0000#16 ∧ ∀ (xs : List Byte) (b : Byte), crc16 (xs ++ [b]) = crcUpdate (crc16 xs) b

/-- R105: order matters, a leading zero byte does not, and the checksum appended most significant byte first gives
zero. -/
def Obligations.ChecksumProperties : Prop :=
  crc16 [0x12#8, 0x34#8] = 0x13C6#16 ∧ crc16 [0x34#8, 0x12#8] = 0xFB22#16 ∧
  (∀ xs : List Byte, crc16 (0x00#8 :: xs) = crc16 xs) ∧
  (∀ xs : List Byte, crc16 (xs ++ [(crc16 xs).extractLsb' 8 8, (crc16 xs).extractLsb' 0 8]) = 0x0000#16)

/-- R107: CRC_INIT clears the accumulator; its word is 0x01000000, and any other word of its op is ILLEGAL. -/
def Obligations.CrcInitClearsAccumulator : Prop :=
  (∀ s : State, exec .crcInit s = .next { s with crcAcc := 0x0000#16 }) ∧
  (∀ w : Word, w.extractLsb' 24 8 = 0x01#8 → decode w = if w = 0x01000000#32 then .crcInit else .illegal)

/-- R108: CRC_BYTE feeds one byte to the accumulator by the update of R102, and after CRC_INIT one CRC_BYTE for each byte
of a list leaves the checksum of the list. -/
def Obligations.CrcByteUpdatesAccumulator : Prop :=
  (∀ (b : Byte) (s : State), exec (.crcByte b) s =
    .next { s with crcAcc := (s.crcAcc <<< 8) ^^^ crcEntry (b ^^^ s.crcAcc.extractLsb' 8 8) }) ∧
  (∀ w : Word, w.extractLsb' 24 8 = 0x02#8 →
    decode w = if w.extractLsb' 8 16 = 0#16 then .crcByte (w.extractLsb' 0 8) else .illegal) ∧
  crcUpdate 0x0000#16 0x00#8 = 0x0000#16 ∧ crcUpdate 0x0000#16 0xFF#8 = 0x1EF0#16 ∧
  crcUpdate 0xFFFF#16 0xFF#8 = 0xFF00#16 ∧ crcUpdate 0x0000#16 0x55#8 = 0x0A50#16 ∧
  (∀ (bs : List Byte) (s : State), execAll (.crcInit :: bs.map .crcByte) s = .next { s with crcAcc := crc16 bs })

/-- R80, R108: CRC_INIT and then a CRC_BYTE for each byte leave the checksum of the bytes, and change nothing else. -/
def Obligations.CrcSequenceIsChecksum : Prop :=
  ∀ (bs : List Byte) (s : State), execAll (expandPseudo (.crc bs)) s = .next { s with crcAcc := crc16 bs }

/-- R109: every other command neither uses nor changes CRC_ACC: with another accumulator it does the same, and it can
be exchanged with a CRC command before it. -/
def Obligations.AccumulatorIsIndependent : Prop :=
  ∀ (i : Instr) (s t : State), isCrc i = false → exec i s = .next t →
    t.crcAcc = s.crcAcc ∧
    (∀ a : Half, exec i { s with crcAcc := a } = .next { t with crcAcc := a }) ∧
    (∀ c : Instr, isCrc c = true → execAll [c, i] s = execAll [i, c] s)

/-! ### Frame encoder (41_tx_encoder.md) -/

/-- R58: a u16 is built least significant byte first, and taken apart the same way. -/
def Obligations.WireIsLittleEndian : Prop :=
  (∀ lo hi : Byte, le16 lo hi = hi ++ lo ∧ bytesLe16 (le16 lo hi) = [lo, hi]) ∧ le16 0x55#8 0x66#8 = 0x6655#16

/-- R123: SET_YAW stores all 16 bits unchanged and they read back sign-extended. -/
def Obligations.SetYawStoresOperand : Prop :=
  (∀ (h : Half) (s : State), exec (.setYaw h) s = .next { s with yawOut := h } ∧
    readPort { s with yawOut := h } 0x004#10 = h.signExtend 32) ∧
  (∀ h : Half, decode (0x1000#16 ++ h) = .setYaw h)

/-- R124: SET_PITCH stores all 16 bits unchanged and they read back sign-extended. -/
def Obligations.SetPitchStoresOperand : Prop :=
  (∀ (h : Half) (s : State), exec (.setPitch h) s = .next { s with pitchOut := h } ∧
    readPort { s with pitchOut := h } 0x005#10 = h.signExtend 32) ∧
  (∀ h : Half, decode (0x1100#16 ++ h) = .setPitch h)

/-- R125: TX_CONTROL emits the 14 bytes of the control frame and keeps their checksum. -/
def Obligations.TxControlEmitsFrame : Prop :=
  (∀ (s : State) (hdr : List Byte),
    hdr = [0x55#8, 0x66#8, 0x01#8, 0x04#8, 0x00#8, 0x00#8, 0x00#8, 0x0E#8, s.yawOut.extractLsb' 0 8,
      s.yawOut.extractLsb' 8 8, s.pitchOut.extractLsb' 0 8, s.pitchOut.extractLsb' 8 8] →
    exec .txControl s = .next { s with
      txLastCrc := crc16 hdr
      txOut := s.txOut ++ hdr ++ [(crc16 hdr).extractLsb' 0 8, (crc16 hdr).extractLsb' 8 8] }) ∧
  (∀ w : Word, w.extractLsb' 24 8 = 0x20#8 → decode w = if w = 0x20000000#32 then .txControl else .illegal) ∧
  (∀ s : State, s.yawOut = BitVec.ofInt 16 450 → s.pitchOut = BitVec.ofInt 16 (-300) →
    exec .txControl s = .next { s with
      txLastCrc := 0x7926#16
      txOut := s.txOut ++ [0x55#8, 0x66#8, 0x01#8, 0x04#8, 0x00#8, 0x00#8, 0x00#8, 0x0E#8, 0xC2#8, 0x01#8, 0xD4#8,
        0xFE#8, 0x26#8, 0x79#8] })

/-- R126: TX_HOME emits the 11 bytes of the home frame of the block's variant. -/
def Obligations.TxHomeEmitsFrame : Prop :=
  (∀ s : State, s.params.homeVariant = .table → exec .txHome s = .next { s with
    txLastCrc := 0xEDE9#16
    txOut := s.txOut ++ [0x55#8, 0x66#8, 0x01#8, 0x00#8, 0x00#8, 0x00#8, 0x00#8, 0x01#8, 0x01#8, 0xE9#8, 0xED#8] }) ∧
  (∀ s : State, s.params.homeVariant = .vec8 → exec .txHome s = .next { s with
    txLastCrc := 0x12D1#16
    txOut := s.txOut ++ [0x55#8, 0x66#8, 0x01#8, 0x01#8, 0x00#8, 0x00#8, 0x00#8, 0x08#8, 0x01#8, 0xD1#8, 0x12#8] }) ∧
  (∀ w : Word, w.extractLsb' 24 8 = 0x21#8 → decode w = if w = 0x21000000#32 then .txHome else .illegal)

/-- R127: TX_ATTREQ emits the source's ten reference bytes. -/
def Obligations.TxAttreqEmitsFrame : Prop :=
  (∀ s : State, exec .txAttreq s = .next { s with
    txLastCrc := 0x05E8#16
    txOut := s.txOut ++ [0x55#8, 0x66#8, 0x01#8, 0x00#8, 0x00#8, 0x00#8, 0x00#8, 0x0D#8, 0xE8#8, 0x05#8] }) ∧
  (∀ w : Word, w.extractLsb' 24 8 = 0x22#8 → decode w = if w = 0x22000000#32 then .txAttreq else .illegal)

/-- R121, R122: every emitted frame begins with the STX and control flag 0x01, carries sequence 0x0000, and ends with
the checksum of every byte before it, least significant byte first, which TX_LAST_CRC keeps. -/
def Obligations.EveryFrameIsSealed : Prop :=
  ∀ (i : Instr) (s : State), isTx i = true → ∃ (hdr : List Byte) (t : State), exec i s = .next t ∧
    t.txOut = s.txOut ++ hdr ++ [(crc16 hdr).extractLsb' 0 8, (crc16 hdr).extractLsb' 8 8] ∧
    t.txLastCrc = crc16 hdr ∧ 8 ≤ hdr.length ∧ hdr.take 3 = [0x55#8, 0x66#8, 0x01#8] ∧
    (hdr.drop 5).take 2 = [0x00#8, 0x00#8]

/-- R131: the two angles of a control frame read back as the integers they were set from. -/
def Obligations.ControlFrameCarriesAngles : Prop :=
  ∀ (y p : Int) (s : State), -32768 ≤ y → y ≤ 32767 → -32768 ≤ p → p ≤ 32767 →
    ∃ (t : State) (f : List Byte),
      execAll (expandPseudo (.sendControl (u16of y) (u16of p))) s = .next t ∧ t.txOut = s.txOut ++ f ∧
      f.length = 14 ∧ s16 (le16 (f.getD 8 0#8) (f.getD 9 0#8)) = y ∧ s16 (le16 (f.getD 10 0#8) (f.getD 11 0#8)) = p

/-- R65: the frames of any number of TX commands stand in tx_out whole, one after the other, in command order. -/
def Obligations.FramesAreBackToBack : Prop :=
  ∀ (is : List Instr) (s : State), (∀ i ∈ is, isTx i = true) →
    ∃ t, execAll is s = .next t ∧ t.txOut = s.txOut ++ (is.map (fun i => txFrame i s)).flatten

/-- R43: tx_out only grows: what a step finds in it stays in front, and only a TX command adds anything. -/
def Obligations.OutputOnlyGrows : Prop :=
  (∀ s t : State, step s = .next t → s.txOut <+: t.txOut) ∧
  (∀ (i : Instr) (s t : State), exec i s = .next t → t.txOut = s.txOut ++ txFrame i s)

/-- R129: what a TX command emits depends on YAW_OUT, PITCH_OUT and the parameter alone, and it changes only tx_out and
TX_LAST_CRC. -/
def Obligations.EncoderIgnoresDecoder : Prop :=
  ∀ (i : Instr) (s s' : State), isTx i = true → s.yawOut = s'.yawOut → s.pitchOut = s'.pitchOut →
    s.params = s'.params → ∃ (c : Half) (f : List Byte),
      exec i s = .next { s with txLastCrc := c, txOut := s.txOut ++ f } ∧
      exec i s' = .next { s' with txLastCrc := c, txOut := s'.txOut ++ f }

/-! ### Frame decoder (42_rx_decoder.md) -/

/-- R142: RX_RESET drops a partial frame and records nothing. -/
def Obligations.RxResetDropsFrame : Prop :=
  (∀ s : State, exec .rxReset s =
    .next { s with rxCount := 0, status := { s.status with rxState := .search } }) ∧
  (∀ w : Word, w.extractLsb' 24 8 = 0x30#8 → decode w = if w = 0x30000000#32 then .rxReset else .illegal)

/-- R144: RX_BYTE in SEARCH, in each of its cases. -/
def Obligations.RxByteInSearch : Prop :=
  ∀ (s : State) (b : Byte), s.status.rxState = .search →
    (s.config.scanEn = true → b = 0x55#8 → exec (.rxByte b) s = .next { s with
      rxBuf := s.rxBuf.set 0 b, rxCount := 1, status := { s.status with rxState := .have55 } }) ∧
    (s.config.scanEn = true → b ≠ 0x55#8 → exec (.rxByte b) s = .next s) ∧
    (s.config.scanEn = false → exec (.rxByte b) s = .next { s with
      rxBuf := s.rxBuf.set 0 b, rxCount := 1, status := { s.status with rxState := .collect } })

/-- R146: RX_BYTE in HAVE55, in each of its cases. -/
def Obligations.RxByteInHave55 : Prop :=
  ∀ (s : State) (b : Byte), s.status.rxState = .have55 →
    (b = 0x66#8 → exec (.rxByte b) s = .next { s with
      rxBuf := s.rxBuf.set 1 b, rxCount := 2, status := { s.status with rxState := .collect } }) ∧
    (b = 0x55#8 → exec (.rxByte b) s = .next s) ∧
    (b ≠ 0x66#8 → b ≠ 0x55#8 → exec (.rxByte b) s = .next { s with
      rxCount := 0, status := { s.status with rxState := .search } })

/-- R147: RX_BYTE in COLLECT before the last byte stores the byte, whatever it is. -/
def Obligations.RxByteInCollect : Prop :=
  ∀ (s : State) (b : Byte) (n : Fin 22), s.status.rxState = .collect → n.val = s.rxCount.val + 1 →
    exec (.rxByte b) s = .next { s with rxBuf := s.rxBuf.set s.rxCount.val b s.rxCount.isLt, rxCount := n }

/-- R152, R153, R184, R186: the step that stores frame byte 21 loads the header, returns to SEARCH, runs the checks in
their order, loads the fields for an accepted frame, and records the outcome. -/
def Obligations.RxByteCompletesFrame : Prop :=
  ∀ (s : State) (b : Byte) (f : Vector Byte 22) (base fields : State) (st : RxResult → Status),
    s.status.rxState = .collect → s.rxCount.val = 21 → f = s.rxBuf.set 21 b →
    base = { s with
      rxBuf := f, rxCount := 0, rxCtrl := f[2], rxLen := f[4] ++ f[3], rxSeq := f[6] ++ f[5], rxCmd := f[7],
      rxCrcRecv := f[21] ++ f[20], rxCrcCalc := crc16 (f.toList.take 20) } →
    fields = { base with
      yawRaw := f[9] ++ f[8], pitchRaw := f[11] ++ f[10], rollRaw := f[13] ++ f[12], yawRate := f[15] ++ f[14],
      pitchRate := f[17] ++ f[16], rollRate := f[19] ++ f[18],
      pitchDd := BitVec.ofInt 32 (if (f[11] ++ f[10]).toInt ≤ -900 then -(f[11] ++ f[10]).toInt
        else (f[11] ++ f[10]).toInt - 1800) } →
    (∀ o, st o = { s.status with
      rxState := .search, done := true, result := o, overrun := s.status.overrun || s.status.done }) →
    (¬ (f[0] = 0x55#8 ∧ f[1] = 0x66#8) → exec (.rxByte b) s = .next { base with status := st .syncError }) ∧
    (f[0] = 0x55#8 → f[1] = 0x66#8 →
      (base.rxLen ≠ 12#16 → exec (.rxByte b) s = .next { base with status := st .lengthError }) ∧
      (base.rxLen = 12#16 → base.rxCrcCalc ≠ base.rxCrcRecv → s.config.crcStrict = true →
        exec (.rxByte b) s = .next { base with status := st .crcRejected }) ∧
      (base.rxLen = 12#16 → base.rxCrcCalc ≠ base.rxCrcRecv → s.config.crcStrict = false →
        exec (.rxByte b) s = .next { fields with status := st .okCrcMismatch }) ∧
      (base.rxLen = 12#16 → base.rxCrcCalc = base.rxCrcRecv →
        exec (.rxByte b) s = .next { fields with status := st .ok }))

/-- R159: RX_ABORT records SHORT_FRAME in COLLECT and TIMEOUT otherwise, and returns the decoder to SEARCH. -/
def Obligations.RxAbortRecordsOutcome : Prop :=
  (∀ s : State, exec .rxAbort s = .next { s with
    rxCount := 0
    status := { s.status with
      rxState := .search
      done := true
      result := if s.status.rxState = .collect then .shortFrame else .timeout
      overrun := s.status.overrun || s.status.done } }) ∧
  (∀ w : Word, w.extractLsb' 24 8 = 0x32#8 → decode w = if w = 0x32000000#32 then .rxAbort else .illegal)

/-- R155: PITCH_DD, read as the signed number it holds, is the asymmetric decode of the raw pitch, and lies in
-2699..32768. -/
def Obligations.PitchDecodeIsAsymmetric : Prop :=
  (∀ raw : Half,
    (pitchDdOf raw).toInt = (if raw.toInt ≤ -900 then -raw.toInt else raw.toInt - 1800) ∧
    -2699 ≤ (pitchDdOf raw).toInt ∧ (pitchDdOf raw).toInt ≤ 32768) ∧
  (pitchDdOf (u16of (-900))).toInt = 900 ∧ (pitchDdOf (u16of (-899))).toInt = -2699 ∧
  (pitchDdOf (u16of (-850))).toInt = -2650 ∧ (pitchDdOf (u16of (-32768))).toInt = 32768

/-- R49: one execution writes all seven field registers from the frame in RX_BUF, and only when it records OK or
OK_CRC_MISMATCH, or it writes none of them. -/
def Obligations.FieldsLoadTogether : Prop :=
  ∀ (i : Instr) (s t : State), exec i s = .next t →
    (t.yawRaw = s.yawRaw ∧ t.pitchRaw = s.pitchRaw ∧ t.rollRaw = s.rollRaw ∧ t.yawRate = s.yawRate ∧
      t.pitchRate = s.pitchRate ∧ t.rollRate = s.rollRate ∧ t.pitchDd = s.pitchDd) ∨
    (recordsOutcome i s = true ∧ (t.status.result = .ok ∨ t.status.result = .okCrcMismatch) ∧
      t.yawRaw = t.rxBuf[9] ++ t.rxBuf[8] ∧ t.pitchRaw = t.rxBuf[11] ++ t.rxBuf[10] ∧
      t.rollRaw = t.rxBuf[13] ++ t.rxBuf[12] ∧ t.yawRate = t.rxBuf[15] ++ t.rxBuf[14] ∧
      t.pitchRate = t.rxBuf[17] ++ t.rxBuf[16] ∧ t.rollRate = t.rxBuf[19] ++ t.rxBuf[18] ∧
      t.pitchDd = pitchDdOf t.pitchRaw)

/-- R162: with the scan on, from a decoder that is in sync, no sequence of commands that leaves SCAN_EN on can record
SYNC_ERROR. -/
def Obligations.ScanNeverSyncError : Prop :=
  ∀ (is : List Instr) (s t : State), BlockInv s → InSync s → s.config.scanEn = true → s.status.result ≠ .syncError →
    (∀ m : Half, .cfgWrite m ∈ is → m.getLsbD 0 = true) → execAll is s = .next t →
    t.status.result ≠ .syncError ∧ BlockInv t ∧ InSync t

/-- R161: SCAN_EN is read only by RX_BYTE in SEARCH and CRC_STRICT only by a completion: any other command, but
CFG_WRITE, does the same under any CONFIG that agrees on the bit it reads. -/
def Obligations.ConfigIsReadWhereUsed : Prop :=
  ∀ (i : Instr) (s t : State) (c : ConfigReg), (∀ m : Half, i ≠ .cfgWrite m) → exec i s = .next t →
    (∀ b : Byte, i = .rxByte b → s.status.rxState = .search → c.scanEn = s.config.scanEn) →
    (∀ b : Byte, i = .rxByte b → recordsOutcome i s = true → c.crcStrict = s.config.crcStrict) →
    t.config = s.config ∧ exec i { s with config := c } = .next { t with config := c }

/-- R160: a byte of RX_BUF changes only when RX_BYTE stores it as the frame byte of that index. -/
def Obligations.StaleBytesAreKept : Prop :=
  ∀ (i : Instr) (s t : State) (k : Fin 22), BlockInv s → exec i s = .next t → t.rxBuf[k] ≠ s.rxBuf[k] →
    k = s.rxCount ∧ i = .rxByte t.rxBuf[k]

/-- R146: a run of 0x55 bytes followed by 0x66 is synchronised on its last 0x55, and bytes before it that are not 0x55
are discarded and change nothing. -/
def Obligations.ScanSyncsOnLastOfRun : Prop :=
  ∀ (s : State) (noise : List Byte) (n : Nat), s.status.rxState = .search → s.config.scanEn = true →
    (∀ b ∈ noise, b ≠ 0x55#8) →
    execAll (expandPseudo (.rxBytes noise)) s = .next s ∧
    execAll (expandPseudo (.rxBytes (noise ++ List.replicate (n + 1) 0x55#8 ++ [0x66#8]))) s = .next { s with
      rxBuf := (s.rxBuf.set 0 0x55#8).set 1 0x66#8, rxCount := 2, status := { s.status with rxState := .collect } }

/-- R164, R152: from SEARCH with the scan on, the 22 bytes of any valid report are received whole: the outcome is OK,
the header and the fields are those of the frame, and nothing else changes. -/
def Obligations.ValidReportIsReceived : Prop :=
  ∀ (s : State) (f : Vector Byte 22), s.status.rxState = .search → s.config.scanEn = true →
    f[0] = 0x55#8 → f[1] = 0x66#8 → f[3] = 12#8 → f[4] = 0#8 → crc16 (f.toList.take 20) = f[21] ++ f[20] →
    execAll (expandPseudo (.rxBytes f.toList)) s = .next { s with
      rxBuf := f, rxCount := 0, rxCtrl := f[2], rxLen := 12#16, rxSeq := f[6] ++ f[5], rxCmd := f[7],
      rxCrcRecv := f[21] ++ f[20], rxCrcCalc := f[21] ++ f[20],
      yawRaw := f[9] ++ f[8], pitchRaw := f[11] ++ f[10], rollRaw := f[13] ++ f[12], yawRate := f[15] ++ f[14],
      pitchRate := f[17] ++ f[16], rollRate := f[19] ++ f[18], pitchDd := pitchDdOf (f[11] ++ f[10]),
      status := { s.status with
        rxState := .search, done := true, result := .ok, overrun := s.status.overrun || s.status.done } }

/-! ### Control commands (43_control.md) -/

/-- R170: NOP leaves every state as it is, and any other word of its op is ILLEGAL. -/
def Obligations.NopChangesNothing : Prop :=
  (∀ s : State, exec .nop s = .next s) ∧
  (∀ w : Word, w.extractLsb' 24 8 = 0x00#8 → decode w = if w = 0x00000000#32 then .nop else .illegal)

/-- R171: CFG_WRITE writes both bits of CONFIG from its operand and nothing else: CONFIG then reads as the operand.
With a bit outside 1:0 in the operand the word is ILLEGAL: CMD_ERR is set and CONFIG, like everything else, does not
change. -/
def Obligations.CfgWriteSetsConfig : Prop :=
  (∀ (m : Half) (s : State), m &&& 0xFFFC#16 = 0#16 →
    decode (0x4000#16 ++ m) = .cfgWrite m ∧
    exec (.cfgWrite m) s = .next { s with config := { scanEn := m.getLsbD 0, crcStrict := m.getLsbD 1 } } ∧
    readPort { s with config := { scanEn := m.getLsbD 0, crcStrict := m.getLsbD 1 } } 0x001#10 = m.setWidth 32) ∧
  (∀ (m : Half) (s : State), m &&& 0xFFFC#16 ≠ 0#16 → decode (0x4000#16 ++ m) = .illegal ∧
    exec (decode (0x4000#16 ++ m)) s = .next { s with status := { s.status with cmdErr := true } })

/-- R172: STATUS_CLEAR clears the sticky bits its operand selects, one for each bit set, and nothing else: STATUS then
reads as it did with those bits 0. With any other bit in the operand the word is ILLEGAL: CMD_ERR is set and nothing is
cleared. -/
def Obligations.StatusClearClearsSelected : Prop :=
  (∀ (m : Half) (s t : State), m &&& 0xFE7B#16 = 0#16 →
    t = { s with status := { s.status with
      done := s.status.done && !m.getLsbD 2
      overrun := s.status.overrun && !m.getLsbD 7
      cmdErr := s.status.cmdErr && !m.getLsbD 8 } } →
    decode (0x4100#16 ++ m) = .statusClear m ∧ exec (.statusClear m) s = .next t ∧
    statusWord t.status = statusWord s.status &&& ~~~m) ∧
  (∀ (m : Half) (s : State), m &&& 0xFE7B#16 ≠ 0#16 →
    exec (decode (0x4100#16 ++ m)) s = .next { s with status := { s.status with cmdErr := true } })

/-- R174: `cmd_error()`, all that ILLEGAL does, sets CMD_ERR and does nothing else. -/
def Obligations.IllegalSetsCmdErr : Prop :=
  ∀ s : State, exec .illegal s = .next { s with status := { s.status with cmdErr := true } }

/-- R175: what no control command changes. -/
def Obligations.ControlCommandsFrame : Prop :=
  (∀ (i : Instr) (s t : State), isControl i = true → exec i s = .next t →
    t.crcAcc = s.crcAcc ∧ t.yawOut = s.yawOut ∧ t.pitchOut = s.pitchOut ∧ t.txLastCrc = s.txLastCrc ∧
    t.yawRaw = s.yawRaw ∧ t.pitchRaw = s.pitchRaw ∧ t.rollRaw = s.rollRaw ∧ t.yawRate = s.yawRate ∧
    t.pitchRate = s.pitchRate ∧ t.rollRate = s.rollRate ∧ t.pitchDd = s.pitchDd ∧
    t.rxCtrl = s.rxCtrl ∧ t.rxLen = s.rxLen ∧ t.rxSeq = s.rxSeq ∧ t.rxCmd = s.rxCmd ∧
    t.rxCrcRecv = s.rxCrcRecv ∧ t.rxCrcCalc = s.rxCrcCalc ∧ t.rxBuf = s.rxBuf ∧ t.rxCount = s.rxCount ∧
    t.txOut = s.txOut) ∧
  (∀ s : State, exec .nop s = .next s) ∧
  (∀ (m : Half) (s : State), ∃ c, exec (.cfgWrite m) s = .next { s with config := c }) ∧
  (∀ (m : Half) (s : State), ∃ st, exec (.statusClear m) s = .next { s with status := st } ∧
    (m.getLsbD 2 = false → st.done = s.status.done) ∧ (m.getLsbD 7 = false → st.overrun = s.status.overrun) ∧
    (m.getLsbD 8 = false → st.cmdErr = s.status.cmdErr) ∧ st.rxState = s.status.rxState ∧
    st.result = s.status.result) ∧
  (∀ s : State, ∃ e, exec .illegal s = .next { s with status := { s.status with cmdErr := e } })

/-! ### Outcomes (60_exceptions.md) -/

/-- R184: recording an outcome, what the block has in place of trap entry. -/
def Obligations.RecordSetsOutcome : Prop :=
  ∀ (o : RxResult) (s : State),
    (s.status.done = true → record o s = { s with status := { s.status with
      overrun := true, done := true, result := o } }) ∧
    (s.status.done = false → record o s = { s with status := { s.status with done := true, result := o } })

/-- R29 to R35, R181, R25 to R27: the places and codes of the fields of STATUS and CONFIG; reserved bits read 0. -/
def Obligations.StatusAndConfigLayout : Prop :=
  (∀ t : Status,
    (statusWord t).extractLsb' 0 2 = (match t.rxState with | .search => 0#2 | .have55 => 1#2 | .collect => 2#2) ∧
    (statusWord t).getLsbD 2 = t.done ∧ (statusWord t).getLsbD 3 = false ∧
    (statusWord t).extractLsb' 4 3 = (match t.result with
      | .none => 0#3 | .ok => 1#3 | .okCrcMismatch => 2#3 | .syncError => 3#3 | .lengthError => 4#3
      | .crcRejected => 5#3 | .timeout => 6#3 | .shortFrame => 7#3) ∧
    (statusWord t).getLsbD 7 = t.overrun ∧ (statusWord t).getLsbD 8 = t.cmdErr ∧
    (statusWord t).extractLsb' 9 7 = 0#7) ∧
  (∀ c : ConfigReg, (configWord c).getLsbD 0 = c.scanEn ∧ (configWord c).getLsbD 1 = c.crcStrict ∧
    (configWord c).extractLsb' 2 14 = 0#14)

/-- R182, R187: only RX_ABORT, and RX_BYTE in the completing step, record an outcome, and then exactly one; any other
execution leaves RESULT, and sets neither DONE nor OVERRUN (STATUS_CLEAR may clear them: log entry 9). -/
def Obligations.OutcomesRecordedOnlyByReceive : Prop :=
  ∀ (i : Instr) (s t : State), exec i s = .next t →
    (recordsOutcome i s = true → t.status.done = true ∧ t.status.result ≠ .none ∧
      t.status.overrun = (s.status.overrun || s.status.done) ∧ t.status.cmdErr = s.status.cmdErr) ∧
    (recordsOutcome i s = false → t.status.result = s.status.result ∧
      (t.status.done = true → s.status.done = true) ∧ (t.status.overrun = true → s.status.overrun = true) ∧
      ((∀ m : Half, i ≠ .statusClear m) →
        t.status.done = s.status.done ∧ t.status.overrun = s.status.overrun))

/-- R197: no outcome changes what the encoder would send, nor CRC_ACC, CONFIG or tx_out. -/
def Obligations.OutcomesLeaveEncoderAlone : Prop :=
  ∀ (i : Instr) (s : State), recordsOutcome i s = true → ∃ t, exec i s = .next t ∧
    t.crcAcc = s.crcAcc ∧ t.config = s.config ∧ t.yawOut = s.yawOut ∧ t.pitchOut = s.pitchOut ∧
    t.txLastCrc = s.txLastCrc ∧ t.txOut = s.txOut ∧ (∀ j : Instr, txFrame j t = txFrame j s)

/-! ### The read port (20_memory.md) -/

/-- R52 to R56: the address map, each register extended as it says; every other address reads 0. -/
def Obligations.ReadPortMap : Prop :=
  ∀ s : State,
    readPort s 0x000#10 = s.crcAcc.setWidth 32 ∧ readPort s 0x001#10 = (configWord s.config).setWidth 32 ∧
    readPort s 0x002#10 = (statusWord s.status).setWidth 32 ∧ (readPort s 0x003#10).toNat = s.rxCount.val ∧
    readPort s 0x004#10 = s.yawOut.signExtend 32 ∧ readPort s 0x005#10 = s.pitchOut.signExtend 32 ∧
    readPort s 0x006#10 = s.txLastCrc.setWidth 32 ∧
    readPort s 0x008#10 = s.yawRaw.signExtend 32 ∧ readPort s 0x009#10 = s.pitchRaw.signExtend 32 ∧
    readPort s 0x00A#10 = s.rollRaw.signExtend 32 ∧ readPort s 0x00B#10 = s.yawRate.signExtend 32 ∧
    readPort s 0x00C#10 = s.pitchRate.signExtend 32 ∧ readPort s 0x00D#10 = s.rollRate.signExtend 32 ∧
    readPort s 0x00E#10 = s.pitchDd ∧ readPort s 0x010#10 = s.rxCtrl.setWidth 32 ∧
    readPort s 0x011#10 = s.rxLen.setWidth 32 ∧ readPort s 0x012#10 = s.rxSeq.setWidth 32 ∧
    readPort s 0x013#10 = s.rxCmd.setWidth 32 ∧ readPort s 0x014#10 = s.rxCrcRecv.setWidth 32 ∧
    readPort s 0x015#10 = s.rxCrcCalc.setWidth 32 ∧
    (∀ k : Fin 22, readPort s (BitVec.ofNat 10 (0x020 + k.val)) = s.rxBuf[k].setWidth 32) ∧
    (∀ i : Byte, readPort s (BitVec.ofNat 10 (0x100 + i.toNat)) = (crcEntry i).setWidth 32) ∧
    (∀ a : PortAddr, (a.toNat = 0x007 ∨ a.toNat = 0x00F ∨ (0x016 ≤ a.toNat ∧ a.toNat ≤ 0x01F) ∨
      (0x036 ≤ a.toNat ∧ a.toNat ≤ 0x0FF) ∨ 0x200 ≤ a.toNat) → readPort s a = 0x00000000#32)
end

