-- ==== Sys2Proof/Laws/PerInstr.lean ====
section
/-! SUPPORT. The per-instruction family EncodeReserved: the encoder writes 0 in the reserved field of every command
(R70, R72 30_encoding.md). -/

namespace Sys2Proof.Laws.EncodeReserved

/-- The reserved field of the command's word is 0. -/
def Statement (i : Instr) : Prop := rsvField (encode i) = 0#8

/-- An op and an operand, put in their places, leave the reserved field 0. -/
theorem rsvField_assembled (op : Byte) (v : Half) :
    rsvField ((op.setWidth 32 <<< 24) ||| v.setWidth 32) = 0#8 := by
  unfold rsvField
  apply BitVec.eq_of_getLsbD_eq
  intro i hi
  have h1 : 16 + i < 24 := by omega
  simp [BitVec.getLsbD_extractLsb', BitVec.getLsbD_or, BitVec.getLsbD_shiftLeft, BitVec.getLsbD_setWidth, h1]

theorem nop : Statement .nop := rsvField_assembled _ _
theorem crcInit : Statement .crcInit := rsvField_assembled _ _
theorem crcByte (b : Byte) : Statement (.crcByte b) := rsvField_assembled _ _
theorem setYaw (h : Half) : Statement (.setYaw h) := rsvField_assembled _ _
theorem setPitch (h : Half) : Statement (.setPitch h) := rsvField_assembled _ _
theorem txControl : Statement .txControl := rsvField_assembled _ _
theorem txHome : Statement .txHome := rsvField_assembled _ _
theorem txAttreq : Statement .txAttreq := rsvField_assembled _ _
theorem rxReset : Statement .rxReset := rsvField_assembled _ _
theorem rxByte (b : Byte) : Statement (.rxByte b) := rsvField_assembled _ _
theorem rxAbort : Statement .rxAbort := rsvField_assembled _ _
theorem cfgWrite (m : Half) : Statement (.cfgWrite m) := rsvField_assembled _ _
theorem statusClear (m : Half) : Statement (.statusClear m) := rsvField_assembled _ _
theorem illegal : Statement .illegal := rsvField_assembled _ _

end Sys2Proof.Laws.EncodeReserved
end

