-- ==== Sys2Proof/Laws/Decode.lean ====
section
/-! SUPPORT. The fields of an encoded word (R70, R81 30_encoding.md). -/

namespace Sys2Proof

theorem opField_assembled (op : Byte) (v : Half) :
    opField ((op.setWidth 32 <<< 24) ||| v.setWidth 32) = op := by
  unfold opField
  apply BitVec.eq_of_getLsbD_eq
  intro i hi
  have hv : v.getLsbD (24 + i) = false := BitVec.getLsbD_of_ge v _ (by omega)
  have hi24 : 24 + i - 24 = i := by omega
  simp only [BitVec.getLsbD_extractLsb', BitVec.getLsbD_or, BitVec.getLsbD_shiftLeft, BitVec.getLsbD_setWidth,
    hv, hi24, hi]
  simp [show 24 + i < 32 by omega, show i < 32 by omega]

theorem immField_assembled (op : Byte) (v : Half) :
    immField ((op.setWidth 32 <<< 24) ||| v.setWidth 32) = v := by
  unfold immField
  apply BitVec.eq_of_getLsbD_eq
  intro i hi
  simp only [BitVec.getLsbD_extractLsb', BitVec.getLsbD_or, BitVec.getLsbD_shiftLeft, BitVec.getLsbD_setWidth, hi]
  simp [show i < 24 by omega, show i < 32 by omega]

theorem opField_encode (i : Instr) : opField (encode i) = i.op?.getD illegalOp := opField_assembled _ _

theorem immField_encode (i : Instr) : immField (encode i) = i.operand16 := immField_assembled _ _

/-- Decoding an encoded command is decoding its op and operand. -/
theorem decode_encode_eq (i : Instr) : decode (encode i) = decodeOp (i.op?.getD illegalOp) i.operand16 := by
  have h : rsvField (encode i) = 0#8 := Laws.EncodeReserved.rsvField_assembled _ _
  simp [decode, h, opField_encode, immField_encode]

/-- A word with reserved field 0 is its op and operand, put in their places. -/
theorem word_eq_assembled (w : Word) (h : rsvField w = 0#8) :
    w = ((opField w).setWidth 32 <<< 24) ||| (immField w).setWidth 32 := by
  apply BitVec.eq_of_getLsbD_eq
  intro i hi
  simp only [opField, immField, BitVec.getLsbD_or, BitVec.getLsbD_shiftLeft, BitVec.getLsbD_setWidth,
    BitVec.getLsbD_extractLsb', hi, decide_true, Bool.true_and]
  by_cases h1 : i < 16
  · simp [h1, show i < 24 by omega]
  · by_cases h2 : i < 24
    · have h3 : (rsvField w).getLsbD (i - 16) = false := by simp [h]
      unfold rsvField at h3
      rw [BitVec.getLsbD_extractLsb'] at h3
      have h4 : 16 + (i - 16) = i := by omega
      simp [show i - 16 < 8 by omega, h4] at h3
      simp [h1, h2, h3]
    · have h5 : 24 + (i - 24) = i := by omega
      simp [h1, h2, h5, show i - 24 < 8 by omega]
      intro hc
      omega

end Sys2Proof
end

