-- ==== Sys2Proof/Laws/State.lean ====
section
/-! SUPPORT. What each named operation does to each field of State, one lemma per field, so that no later proof unfolds
a record update. -/

namespace Sys2Proof.Machine

section emitSealed

variable (hdr : List Byte) (s : State)

@[simp] theorem emitSealed_crcAcc : (emitSealed hdr s).crcAcc = s.crcAcc := rfl
@[simp] theorem emitSealed_config : (emitSealed hdr s).config = s.config := rfl
@[simp] theorem emitSealed_status : (emitSealed hdr s).status = s.status := rfl
@[simp] theorem emitSealed_rxCount : (emitSealed hdr s).rxCount = s.rxCount := rfl
@[simp] theorem emitSealed_yawOut : (emitSealed hdr s).yawOut = s.yawOut := rfl
@[simp] theorem emitSealed_pitchOut : (emitSealed hdr s).pitchOut = s.pitchOut := rfl
@[simp] theorem emitSealed_txLastCrc : (emitSealed hdr s).txLastCrc = crc16 hdr := rfl
@[simp] theorem emitSealed_yawRaw : (emitSealed hdr s).yawRaw = s.yawRaw := rfl
@[simp] theorem emitSealed_pitchRaw : (emitSealed hdr s).pitchRaw = s.pitchRaw := rfl
@[simp] theorem emitSealed_rollRaw : (emitSealed hdr s).rollRaw = s.rollRaw := rfl
@[simp] theorem emitSealed_yawRate : (emitSealed hdr s).yawRate = s.yawRate := rfl
@[simp] theorem emitSealed_pitchRate : (emitSealed hdr s).pitchRate = s.pitchRate := rfl
@[simp] theorem emitSealed_rollRate : (emitSealed hdr s).rollRate = s.rollRate := rfl
@[simp] theorem emitSealed_pitchDd : (emitSealed hdr s).pitchDd = s.pitchDd := rfl
@[simp] theorem emitSealed_rxCtrl : (emitSealed hdr s).rxCtrl = s.rxCtrl := rfl
@[simp] theorem emitSealed_rxLen : (emitSealed hdr s).rxLen = s.rxLen := rfl
@[simp] theorem emitSealed_rxSeq : (emitSealed hdr s).rxSeq = s.rxSeq := rfl
@[simp] theorem emitSealed_rxCmd : (emitSealed hdr s).rxCmd = s.rxCmd := rfl
@[simp] theorem emitSealed_rxCrcRecv : (emitSealed hdr s).rxCrcRecv = s.rxCrcRecv := rfl
@[simp] theorem emitSealed_rxCrcCalc : (emitSealed hdr s).rxCrcCalc = s.rxCrcCalc := rfl
@[simp] theorem emitSealed_rxBuf : (emitSealed hdr s).rxBuf = s.rxBuf := rfl
@[simp] theorem emitSealed_txOut : (emitSealed hdr s).txOut = s.txOut ++ sealed hdr := rfl
@[simp] theorem emitSealed_params : (emitSealed hdr s).params = s.params := rfl
@[simp] theorem emitSealed_port : (emitSealed hdr s).port = s.port := rfl

end emitSealed

section record

variable (o : RxResult) (s : State)

@[simp] theorem record_crcAcc : (record o s).crcAcc = s.crcAcc := rfl
@[simp] theorem record_config : (record o s).config = s.config := rfl
@[simp] theorem record_status : (record o s).status = recordedStatus o s.status := rfl
@[simp] theorem record_rxCount : (record o s).rxCount = s.rxCount := rfl
@[simp] theorem record_yawOut : (record o s).yawOut = s.yawOut := rfl
@[simp] theorem record_pitchOut : (record o s).pitchOut = s.pitchOut := rfl
@[simp] theorem record_txLastCrc : (record o s).txLastCrc = s.txLastCrc := rfl
@[simp] theorem record_yawRaw : (record o s).yawRaw = s.yawRaw := rfl
@[simp] theorem record_pitchRaw : (record o s).pitchRaw = s.pitchRaw := rfl
@[simp] theorem record_rollRaw : (record o s).rollRaw = s.rollRaw := rfl
@[simp] theorem record_yawRate : (record o s).yawRate = s.yawRate := rfl
@[simp] theorem record_pitchRate : (record o s).pitchRate = s.pitchRate := rfl
@[simp] theorem record_rollRate : (record o s).rollRate = s.rollRate := rfl
@[simp] theorem record_pitchDd : (record o s).pitchDd = s.pitchDd := rfl
@[simp] theorem record_rxCtrl : (record o s).rxCtrl = s.rxCtrl := rfl
@[simp] theorem record_rxLen : (record o s).rxLen = s.rxLen := rfl
@[simp] theorem record_rxSeq : (record o s).rxSeq = s.rxSeq := rfl
@[simp] theorem record_rxCmd : (record o s).rxCmd = s.rxCmd := rfl
@[simp] theorem record_rxCrcRecv : (record o s).rxCrcRecv = s.rxCrcRecv := rfl
@[simp] theorem record_rxCrcCalc : (record o s).rxCrcCalc = s.rxCrcCalc := rfl
@[simp] theorem record_rxBuf : (record o s).rxBuf = s.rxBuf := rfl
@[simp] theorem record_txOut : (record o s).txOut = s.txOut := rfl
@[simp] theorem record_params : (record o s).params = s.params := rfl
@[simp] theorem record_port : (record o s).port = s.port := rfl

end record

section clearSticky

variable (m : Half) (s : State)

@[simp] theorem clearSticky_crcAcc : (clearSticky m s).crcAcc = s.crcAcc := rfl
@[simp] theorem clearSticky_config : (clearSticky m s).config = s.config := rfl
@[simp] theorem clearSticky_status : (clearSticky m s).status = clearedStatus m s.status := rfl
@[simp] theorem clearSticky_rxCount : (clearSticky m s).rxCount = s.rxCount := rfl
@[simp] theorem clearSticky_yawOut : (clearSticky m s).yawOut = s.yawOut := rfl
@[simp] theorem clearSticky_pitchOut : (clearSticky m s).pitchOut = s.pitchOut := rfl
@[simp] theorem clearSticky_txLastCrc : (clearSticky m s).txLastCrc = s.txLastCrc := rfl
@[simp] theorem clearSticky_yawRaw : (clearSticky m s).yawRaw = s.yawRaw := rfl
@[simp] theorem clearSticky_pitchRaw : (clearSticky m s).pitchRaw = s.pitchRaw := rfl
@[simp] theorem clearSticky_rollRaw : (clearSticky m s).rollRaw = s.rollRaw := rfl
@[simp] theorem clearSticky_yawRate : (clearSticky m s).yawRate = s.yawRate := rfl
@[simp] theorem clearSticky_pitchRate : (clearSticky m s).pitchRate = s.pitchRate := rfl
@[simp] theorem clearSticky_rollRate : (clearSticky m s).rollRate = s.rollRate := rfl
@[simp] theorem clearSticky_pitchDd : (clearSticky m s).pitchDd = s.pitchDd := rfl
@[simp] theorem clearSticky_rxCtrl : (clearSticky m s).rxCtrl = s.rxCtrl := rfl
@[simp] theorem clearSticky_rxLen : (clearSticky m s).rxLen = s.rxLen := rfl
@[simp] theorem clearSticky_rxSeq : (clearSticky m s).rxSeq = s.rxSeq := rfl
@[simp] theorem clearSticky_rxCmd : (clearSticky m s).rxCmd = s.rxCmd := rfl
@[simp] theorem clearSticky_rxCrcRecv : (clearSticky m s).rxCrcRecv = s.rxCrcRecv := rfl
@[simp] theorem clearSticky_rxCrcCalc : (clearSticky m s).rxCrcCalc = s.rxCrcCalc := rfl
@[simp] theorem clearSticky_rxBuf : (clearSticky m s).rxBuf = s.rxBuf := rfl
@[simp] theorem clearSticky_txOut : (clearSticky m s).txOut = s.txOut := rfl
@[simp] theorem clearSticky_params : (clearSticky m s).params = s.params := rfl
@[simp] theorem clearSticky_port : (clearSticky m s).port = s.port := rfl

end clearSticky

section cmdError

variable (s : State)

@[simp] theorem cmdError_crcAcc : (cmdError s).crcAcc = s.crcAcc := rfl
@[simp] theorem cmdError_config : (cmdError s).config = s.config := rfl
@[simp] theorem cmdError_status : (cmdError s).status = { s.status with cmdErr := true } := rfl
@[simp] theorem cmdError_rxCount : (cmdError s).rxCount = s.rxCount := rfl
@[simp] theorem cmdError_yawOut : (cmdError s).yawOut = s.yawOut := rfl
@[simp] theorem cmdError_pitchOut : (cmdError s).pitchOut = s.pitchOut := rfl
@[simp] theorem cmdError_txLastCrc : (cmdError s).txLastCrc = s.txLastCrc := rfl
@[simp] theorem cmdError_yawRaw : (cmdError s).yawRaw = s.yawRaw := rfl
@[simp] theorem cmdError_pitchRaw : (cmdError s).pitchRaw = s.pitchRaw := rfl
@[simp] theorem cmdError_rollRaw : (cmdError s).rollRaw = s.rollRaw := rfl
@[simp] theorem cmdError_yawRate : (cmdError s).yawRate = s.yawRate := rfl
@[simp] theorem cmdError_pitchRate : (cmdError s).pitchRate = s.pitchRate := rfl
@[simp] theorem cmdError_rollRate : (cmdError s).rollRate = s.rollRate := rfl
@[simp] theorem cmdError_pitchDd : (cmdError s).pitchDd = s.pitchDd := rfl
@[simp] theorem cmdError_rxCtrl : (cmdError s).rxCtrl = s.rxCtrl := rfl
@[simp] theorem cmdError_rxLen : (cmdError s).rxLen = s.rxLen := rfl
@[simp] theorem cmdError_rxSeq : (cmdError s).rxSeq = s.rxSeq := rfl
@[simp] theorem cmdError_rxCmd : (cmdError s).rxCmd = s.rxCmd := rfl
@[simp] theorem cmdError_rxCrcRecv : (cmdError s).rxCrcRecv = s.rxCrcRecv := rfl
@[simp] theorem cmdError_rxCrcCalc : (cmdError s).rxCrcCalc = s.rxCrcCalc := rfl
@[simp] theorem cmdError_rxBuf : (cmdError s).rxBuf = s.rxBuf := rfl
@[simp] theorem cmdError_txOut : (cmdError s).txOut = s.txOut := rfl
@[simp] theorem cmdError_params : (cmdError s).params = s.params := rfl
@[simp] theorem cmdError_port : (cmdError s).port = s.port := rfl

end cmdError

section setRx

variable (x : RxState) (n : Fin 22) (s : State)

@[simp] theorem setRx_crcAcc : (setRx x n s).crcAcc = s.crcAcc := rfl
@[simp] theorem setRx_config : (setRx x n s).config = s.config := rfl
@[simp] theorem setRx_status : (setRx x n s).status = { s.status with rxState := x } := rfl
@[simp] theorem setRx_rxCount : (setRx x n s).rxCount = n := rfl
@[simp] theorem setRx_yawOut : (setRx x n s).yawOut = s.yawOut := rfl
@[simp] theorem setRx_pitchOut : (setRx x n s).pitchOut = s.pitchOut := rfl
@[simp] theorem setRx_txLastCrc : (setRx x n s).txLastCrc = s.txLastCrc := rfl
@[simp] theorem setRx_yawRaw : (setRx x n s).yawRaw = s.yawRaw := rfl
@[simp] theorem setRx_pitchRaw : (setRx x n s).pitchRaw = s.pitchRaw := rfl
@[simp] theorem setRx_rollRaw : (setRx x n s).rollRaw = s.rollRaw := rfl
@[simp] theorem setRx_yawRate : (setRx x n s).yawRate = s.yawRate := rfl
@[simp] theorem setRx_pitchRate : (setRx x n s).pitchRate = s.pitchRate := rfl
@[simp] theorem setRx_rollRate : (setRx x n s).rollRate = s.rollRate := rfl
@[simp] theorem setRx_pitchDd : (setRx x n s).pitchDd = s.pitchDd := rfl
@[simp] theorem setRx_rxCtrl : (setRx x n s).rxCtrl = s.rxCtrl := rfl
@[simp] theorem setRx_rxLen : (setRx x n s).rxLen = s.rxLen := rfl
@[simp] theorem setRx_rxSeq : (setRx x n s).rxSeq = s.rxSeq := rfl
@[simp] theorem setRx_rxCmd : (setRx x n s).rxCmd = s.rxCmd := rfl
@[simp] theorem setRx_rxCrcRecv : (setRx x n s).rxCrcRecv = s.rxCrcRecv := rfl
@[simp] theorem setRx_rxCrcCalc : (setRx x n s).rxCrcCalc = s.rxCrcCalc := rfl
@[simp] theorem setRx_rxBuf : (setRx x n s).rxBuf = s.rxBuf := rfl
@[simp] theorem setRx_txOut : (setRx x n s).txOut = s.txOut := rfl
@[simp] theorem setRx_params : (setRx x n s).params = s.params := rfl
@[simp] theorem setRx_port : (setRx x n s).port = s.port := rfl

end setRx

section toSearch

variable (s : State)

@[simp] theorem toSearch_crcAcc : (toSearch s).crcAcc = s.crcAcc := rfl
@[simp] theorem toSearch_config : (toSearch s).config = s.config := rfl
@[simp] theorem toSearch_status : (toSearch s).status = { s.status with rxState := .search } := rfl
@[simp] theorem toSearch_rxCount : (toSearch s).rxCount = 0 := rfl
@[simp] theorem toSearch_yawOut : (toSearch s).yawOut = s.yawOut := rfl
@[simp] theorem toSearch_pitchOut : (toSearch s).pitchOut = s.pitchOut := rfl
@[simp] theorem toSearch_txLastCrc : (toSearch s).txLastCrc = s.txLastCrc := rfl
@[simp] theorem toSearch_yawRaw : (toSearch s).yawRaw = s.yawRaw := rfl
@[simp] theorem toSearch_pitchRaw : (toSearch s).pitchRaw = s.pitchRaw := rfl
@[simp] theorem toSearch_rollRaw : (toSearch s).rollRaw = s.rollRaw := rfl
@[simp] theorem toSearch_yawRate : (toSearch s).yawRate = s.yawRate := rfl
@[simp] theorem toSearch_pitchRate : (toSearch s).pitchRate = s.pitchRate := rfl
@[simp] theorem toSearch_rollRate : (toSearch s).rollRate = s.rollRate := rfl
@[simp] theorem toSearch_pitchDd : (toSearch s).pitchDd = s.pitchDd := rfl
@[simp] theorem toSearch_rxCtrl : (toSearch s).rxCtrl = s.rxCtrl := rfl
@[simp] theorem toSearch_rxLen : (toSearch s).rxLen = s.rxLen := rfl
@[simp] theorem toSearch_rxSeq : (toSearch s).rxSeq = s.rxSeq := rfl
@[simp] theorem toSearch_rxCmd : (toSearch s).rxCmd = s.rxCmd := rfl
@[simp] theorem toSearch_rxCrcRecv : (toSearch s).rxCrcRecv = s.rxCrcRecv := rfl
@[simp] theorem toSearch_rxCrcCalc : (toSearch s).rxCrcCalc = s.rxCrcCalc := rfl
@[simp] theorem toSearch_rxBuf : (toSearch s).rxBuf = s.rxBuf := rfl
@[simp] theorem toSearch_txOut : (toSearch s).txOut = s.txOut := rfl
@[simp] theorem toSearch_params : (toSearch s).params = s.params := rfl
@[simp] theorem toSearch_port : (toSearch s).port = s.port := rfl

end toSearch

section storeRx

variable (i : Fin 22) (b : Byte) (s : State)

@[simp] theorem storeRx_crcAcc : (storeRx i b s).crcAcc = s.crcAcc := rfl
@[simp] theorem storeRx_config : (storeRx i b s).config = s.config := rfl
@[simp] theorem storeRx_status : (storeRx i b s).status = s.status := rfl
@[simp] theorem storeRx_rxCount : (storeRx i b s).rxCount = s.rxCount := rfl
@[simp] theorem storeRx_yawOut : (storeRx i b s).yawOut = s.yawOut := rfl
@[simp] theorem storeRx_pitchOut : (storeRx i b s).pitchOut = s.pitchOut := rfl
@[simp] theorem storeRx_txLastCrc : (storeRx i b s).txLastCrc = s.txLastCrc := rfl
@[simp] theorem storeRx_yawRaw : (storeRx i b s).yawRaw = s.yawRaw := rfl
@[simp] theorem storeRx_pitchRaw : (storeRx i b s).pitchRaw = s.pitchRaw := rfl
@[simp] theorem storeRx_rollRaw : (storeRx i b s).rollRaw = s.rollRaw := rfl
@[simp] theorem storeRx_yawRate : (storeRx i b s).yawRate = s.yawRate := rfl
@[simp] theorem storeRx_pitchRate : (storeRx i b s).pitchRate = s.pitchRate := rfl
@[simp] theorem storeRx_rollRate : (storeRx i b s).rollRate = s.rollRate := rfl
@[simp] theorem storeRx_pitchDd : (storeRx i b s).pitchDd = s.pitchDd := rfl
@[simp] theorem storeRx_rxCtrl : (storeRx i b s).rxCtrl = s.rxCtrl := rfl
@[simp] theorem storeRx_rxLen : (storeRx i b s).rxLen = s.rxLen := rfl
@[simp] theorem storeRx_rxSeq : (storeRx i b s).rxSeq = s.rxSeq := rfl
@[simp] theorem storeRx_rxCmd : (storeRx i b s).rxCmd = s.rxCmd := rfl
@[simp] theorem storeRx_rxCrcRecv : (storeRx i b s).rxCrcRecv = s.rxCrcRecv := rfl
@[simp] theorem storeRx_rxCrcCalc : (storeRx i b s).rxCrcCalc = s.rxCrcCalc := rfl
@[simp] theorem storeRx_rxBuf : (storeRx i b s).rxBuf = s.rxBuf.set i.val b i.isLt := rfl
@[simp] theorem storeRx_txOut : (storeRx i b s).txOut = s.txOut := rfl
@[simp] theorem storeRx_params : (storeRx i b s).params = s.params := rfl
@[simp] theorem storeRx_port : (storeRx i b s).port = s.port := rfl

end storeRx

section loadHeader

variable (s : State)

@[simp] theorem loadHeader_crcAcc : (loadHeader s).crcAcc = s.crcAcc := rfl
@[simp] theorem loadHeader_config : (loadHeader s).config = s.config := rfl
@[simp] theorem loadHeader_status : (loadHeader s).status = s.status := rfl
@[simp] theorem loadHeader_rxCount : (loadHeader s).rxCount = s.rxCount := rfl
@[simp] theorem loadHeader_yawOut : (loadHeader s).yawOut = s.yawOut := rfl
@[simp] theorem loadHeader_pitchOut : (loadHeader s).pitchOut = s.pitchOut := rfl
@[simp] theorem loadHeader_txLastCrc : (loadHeader s).txLastCrc = s.txLastCrc := rfl
@[simp] theorem loadHeader_yawRaw : (loadHeader s).yawRaw = s.yawRaw := rfl
@[simp] theorem loadHeader_pitchRaw : (loadHeader s).pitchRaw = s.pitchRaw := rfl
@[simp] theorem loadHeader_rollRaw : (loadHeader s).rollRaw = s.rollRaw := rfl
@[simp] theorem loadHeader_yawRate : (loadHeader s).yawRate = s.yawRate := rfl
@[simp] theorem loadHeader_pitchRate : (loadHeader s).pitchRate = s.pitchRate := rfl
@[simp] theorem loadHeader_rollRate : (loadHeader s).rollRate = s.rollRate := rfl
@[simp] theorem loadHeader_pitchDd : (loadHeader s).pitchDd = s.pitchDd := rfl
@[simp] theorem loadHeader_rxCtrl : (loadHeader s).rxCtrl = s.rxBuf[2] := rfl
@[simp] theorem loadHeader_rxLen : (loadHeader s).rxLen = frameHalf s.rxBuf 3 := rfl
@[simp] theorem loadHeader_rxSeq : (loadHeader s).rxSeq = frameHalf s.rxBuf 5 := rfl
@[simp] theorem loadHeader_rxCmd : (loadHeader s).rxCmd = s.rxBuf[7] := rfl
@[simp] theorem loadHeader_rxCrcRecv : (loadHeader s).rxCrcRecv = frameHalf s.rxBuf 20 := rfl
@[simp] theorem loadHeader_rxCrcCalc : (loadHeader s).rxCrcCalc = crc16 (checkedBytes s.rxBuf) := rfl
@[simp] theorem loadHeader_rxBuf : (loadHeader s).rxBuf = s.rxBuf := rfl
@[simp] theorem loadHeader_txOut : (loadHeader s).txOut = s.txOut := rfl
@[simp] theorem loadHeader_params : (loadHeader s).params = s.params := rfl
@[simp] theorem loadHeader_port : (loadHeader s).port = s.port := rfl

end loadHeader

section loadFields

variable (s : State)

@[simp] theorem loadFields_crcAcc : (loadFields s).crcAcc = s.crcAcc := rfl
@[simp] theorem loadFields_config : (loadFields s).config = s.config := rfl
@[simp] theorem loadFields_status : (loadFields s).status = s.status := rfl
@[simp] theorem loadFields_rxCount : (loadFields s).rxCount = s.rxCount := rfl
@[simp] theorem loadFields_yawOut : (loadFields s).yawOut = s.yawOut := rfl
@[simp] theorem loadFields_pitchOut : (loadFields s).pitchOut = s.pitchOut := rfl
@[simp] theorem loadFields_txLastCrc : (loadFields s).txLastCrc = s.txLastCrc := rfl
@[simp] theorem loadFields_yawRaw : (loadFields s).yawRaw = frameHalf s.rxBuf 8 := rfl
@[simp] theorem loadFields_pitchRaw : (loadFields s).pitchRaw = frameHalf s.rxBuf 10 := rfl
@[simp] theorem loadFields_rollRaw : (loadFields s).rollRaw = frameHalf s.rxBuf 12 := rfl
@[simp] theorem loadFields_yawRate : (loadFields s).yawRate = frameHalf s.rxBuf 14 := rfl
@[simp] theorem loadFields_pitchRate : (loadFields s).pitchRate = frameHalf s.rxBuf 16 := rfl
@[simp] theorem loadFields_rollRate : (loadFields s).rollRate = frameHalf s.rxBuf 18 := rfl
@[simp] theorem loadFields_pitchDd : (loadFields s).pitchDd = pitchDdOf (frameHalf s.rxBuf 10) := rfl
@[simp] theorem loadFields_rxCtrl : (loadFields s).rxCtrl = s.rxCtrl := rfl
@[simp] theorem loadFields_rxLen : (loadFields s).rxLen = s.rxLen := rfl
@[simp] theorem loadFields_rxSeq : (loadFields s).rxSeq = s.rxSeq := rfl
@[simp] theorem loadFields_rxCmd : (loadFields s).rxCmd = s.rxCmd := rfl
@[simp] theorem loadFields_rxCrcRecv : (loadFields s).rxCrcRecv = s.rxCrcRecv := rfl
@[simp] theorem loadFields_rxCrcCalc : (loadFields s).rxCrcCalc = s.rxCrcCalc := rfl
@[simp] theorem loadFields_rxBuf : (loadFields s).rxBuf = s.rxBuf := rfl
@[simp] theorem loadFields_txOut : (loadFields s).txOut = s.txOut := rfl
@[simp] theorem loadFields_params : (loadFields s).params = s.params := rfl
@[simp] theorem loadFields_port : (loadFields s).port = s.port := rfl

end loadFields

section assertReset

variable (s : State)

@[simp] theorem assertReset_crcAcc : (assertReset s).crcAcc = State.reset.crcAcc := rfl
@[simp] theorem assertReset_config : (assertReset s).config = State.reset.config := rfl
@[simp] theorem assertReset_status : (assertReset s).status = State.reset.status := rfl
@[simp] theorem assertReset_rxCount : (assertReset s).rxCount = State.reset.rxCount := rfl
@[simp] theorem assertReset_yawOut : (assertReset s).yawOut = State.reset.yawOut := rfl
@[simp] theorem assertReset_pitchOut : (assertReset s).pitchOut = State.reset.pitchOut := rfl
@[simp] theorem assertReset_txLastCrc : (assertReset s).txLastCrc = State.reset.txLastCrc := rfl
@[simp] theorem assertReset_yawRaw : (assertReset s).yawRaw = State.reset.yawRaw := rfl
@[simp] theorem assertReset_pitchRaw : (assertReset s).pitchRaw = State.reset.pitchRaw := rfl
@[simp] theorem assertReset_rollRaw : (assertReset s).rollRaw = State.reset.rollRaw := rfl
@[simp] theorem assertReset_yawRate : (assertReset s).yawRate = State.reset.yawRate := rfl
@[simp] theorem assertReset_pitchRate : (assertReset s).pitchRate = State.reset.pitchRate := rfl
@[simp] theorem assertReset_rollRate : (assertReset s).rollRate = State.reset.rollRate := rfl
@[simp] theorem assertReset_pitchDd : (assertReset s).pitchDd = State.reset.pitchDd := rfl
@[simp] theorem assertReset_rxCtrl : (assertReset s).rxCtrl = State.reset.rxCtrl := rfl
@[simp] theorem assertReset_rxLen : (assertReset s).rxLen = State.reset.rxLen := rfl
@[simp] theorem assertReset_rxSeq : (assertReset s).rxSeq = State.reset.rxSeq := rfl
@[simp] theorem assertReset_rxCmd : (assertReset s).rxCmd = State.reset.rxCmd := rfl
@[simp] theorem assertReset_rxCrcRecv : (assertReset s).rxCrcRecv = State.reset.rxCrcRecv := rfl
@[simp] theorem assertReset_rxCrcCalc : (assertReset s).rxCrcCalc = State.reset.rxCrcCalc := rfl
@[simp] theorem assertReset_rxBuf : (assertReset s).rxBuf = State.reset.rxBuf := rfl
@[simp] theorem assertReset_txOut : (assertReset s).txOut = s.txOut := rfl
@[simp] theorem assertReset_params : (assertReset s).params = s.params := rfl
@[simp] theorem assertReset_port : (assertReset s).port = s.port := rfl

end assertReset

section statusUpdates

variable (o : RxResult) (m : Half) (t : Status)

@[simp] theorem recordedStatus_rxState : (recordedStatus o t).rxState = t.rxState := rfl
@[simp] theorem recordedStatus_done : (recordedStatus o t).done = true := rfl
@[simp] theorem recordedStatus_result : (recordedStatus o t).result = o := rfl
@[simp] theorem recordedStatus_overrun : (recordedStatus o t).overrun = (t.overrun || t.done) := rfl
@[simp] theorem recordedStatus_cmdErr : (recordedStatus o t).cmdErr = t.cmdErr := rfl
@[simp] theorem clearedStatus_rxState : (clearedStatus m t).rxState = t.rxState := rfl
@[simp] theorem clearedStatus_done : (clearedStatus m t).done = (t.done && !m.getLsbD 2) := rfl
@[simp] theorem clearedStatus_result : (clearedStatus m t).result = t.result := rfl
@[simp] theorem clearedStatus_overrun : (clearedStatus m t).overrun = (t.overrun && !m.getLsbD 7) := rfl
@[simp] theorem clearedStatus_cmdErr : (clearedStatus m t).cmdErr = (t.cmdErr && !m.getLsbD 8) := rfl

end statusUpdates

end Sys2Proof.Machine
end

