-- ==== Sys2Proof/Laws/Ops.lean ====
section
/-! SUPPORT. One lemma per shared operation: everything it can do, which later proofs cite instead of unfolding it. -/

namespace Sys2Proof.Machine

/-! ### Values (R11 00_scope.md, R58 20_memory.md) -/

/-- `s16` is the signed reading of the pattern. -/
theorem s16_eq_toInt (v : Half) : s16 v = v.toInt := by
  have h := v.isLt
  unfold s16
  rw [BitVec.toInt_eq_toNat_cond]
  split <;> split <;> omega

/-- `le16` puts its second byte above its first. -/
theorem le16_eq_append (lo hi : Byte) : le16 lo hi = hi ++ lo := by
  unfold le16
  apply BitVec.eq_of_getLsbD_eq
  intro i hi16
  simp only [BitVec.getLsbD_or, BitVec.getLsbD_setWidth, BitVec.getLsbD_shiftLeft, BitVec.getLsbD_append]
  by_cases h : i < 8
  · simp [h, hi16]
  · have : lo.getLsbD i = false := BitVec.getLsbD_of_ge lo i (by omega)
    simp [h, hi16, this]
    omega

/-- The bytes of `bytes_le16` read back. -/
theorem le16_bytes (v : Half) : le16 (v.extractLsb' 0 8) (v.extractLsb' 8 8) = v := by
  rw [le16_eq_append]
  apply BitVec.eq_of_getLsbD_eq
  intro i hi
  simp only [BitVec.getLsbD_append, BitVec.getLsbD_extractLsb']
  by_cases h : i < 8
  · simp [h]
  · have h1 : i - 8 < 8 := by omega
    have h2 : 8 + (i - 8) = i := by omega
    simp [h, h1, h2]

/-- The low byte of a value built from two bytes. -/
theorem extract_low_le16 (lo hi : Byte) : (le16 lo hi).extractLsb' 0 8 = lo := by
  apply BitVec.eq_of_getLsbD_eq
  intro i hi8
  simp only [le16, BitVec.getLsbD_extractLsb', BitVec.getLsbD_or, BitVec.getLsbD_setWidth, BitVec.getLsbD_shiftLeft]
  simp [hi8, show i < 16 by omega]

/-- The high byte of a value built from two bytes. -/
theorem extract_high_le16 (lo hi : Byte) : (le16 lo hi).extractLsb' 8 8 = hi := by
  apply BitVec.eq_of_getLsbD_eq
  intro i hi8
  have h0 : lo.getLsbD (8 + i) = false := BitVec.getLsbD_of_ge lo _ (by omega)
  simp only [le16, BitVec.getLsbD_extractLsb', BitVec.getLsbD_or, BitVec.getLsbD_setWidth, BitVec.getLsbD_shiftLeft, h0]
  simp [hi8, show i < 16 by omega]
  omega

/-- The two bounds of the pitch decode over the i16 range (R40 10_state.md). -/
theorem pitchTenths_bounds {raw : Int} (h1 : -32768 ≤ raw) (h2 : raw ≤ 32767) :
    -2699 ≤ pitchTenths raw ∧ pitchTenths raw ≤ 32768 := by
  unfold pitchTenths
  split <;> omega

/-! ### The checksum (R103 40_crc.md) and the frame seal (R122 41_tx_encoder.md) -/

@[simp] theorem crc16_nil : crc16 [] = 0#16 := rfl

theorem crc16_append (xs ys : List Byte) : crc16 (xs ++ ys) = ys.foldl crcUpdate (crc16 xs) := by
  simp [crc16, List.foldl_append]

@[simp] theorem bytesLe16_length (v : Half) : (bytesLe16 v).length = 2 := rfl

@[simp] theorem sealed_length (hdr : List Byte) : (sealed hdr).length = hdr.length + 2 := by
  simp [sealed]

/-! ### The receive buffer (R160 42_rx_decoder.md) -/

theorem storeRx_get_same (i : Fin 22) (b : Byte) (s : State) : (storeRx i b s).rxBuf[i.val] = b := by
  simp

theorem storeRx_get_other (i : Fin 22) (b : Byte) (s : State) {k : Nat} (hk : k < 22) (h : i.val ≠ k) :
    (storeRx i b s).rxBuf[k] = s.rxBuf[k] := by
  simp [Vector.getElem_set_ne, h]

/-! ### The decoder's steps -/

/-- Everything `frameOutcome` can answer, with the checks that led there (R152 42_rx_decoder.md). -/
theorem frameOutcome_cases (s : State) :
    (frameOutcome s = .syncError ∧ frameHalf s.rxBuf 0 ≠ 0x6655#16) ∨
    (frameOutcome s = .lengthError ∧ frameHalf s.rxBuf 0 = 0x6655#16 ∧ s.rxLen ≠ 12#16) ∨
    (frameOutcome s = .ok ∧ frameHalf s.rxBuf 0 = 0x6655#16 ∧ s.rxLen = 12#16 ∧ s.rxCrcCalc = s.rxCrcRecv) ∨
    (frameOutcome s = .crcRejected ∧ frameHalf s.rxBuf 0 = 0x6655#16 ∧ s.rxLen = 12#16 ∧
      s.rxCrcCalc ≠ s.rxCrcRecv ∧ s.config.crcStrict = true) ∨
    (frameOutcome s = .okCrcMismatch ∧ frameHalf s.rxBuf 0 = 0x6655#16 ∧ s.rxLen = 12#16 ∧
      s.rxCrcCalc ≠ s.rxCrcRecv ∧ s.config.crcStrict = false) := by
  unfold frameOutcome
  by_cases h1 : frameHalf s.rxBuf 0 = 0x6655#16 <;> by_cases h2 : s.rxLen = 12#16 <;>
    by_cases h3 : s.rxCrcCalc = s.rxCrcRecv <;> cases h4 : s.config.crcStrict <;> simp [h1, h2, h3]

/-- A completion records one of the five outcomes, on the loaded header, with the fields loaded exactly when the
outcome is accepted. -/
theorem complete_eq (s : State) :
    ∃ o, o = frameOutcome (toSearch (loadHeader s)) ∧
      complete s = record o (if o.accepted then loadFields (toSearch (loadHeader s)) else toSearch (loadHeader s)) :=
  ⟨_, rfl, rfl⟩

/-- Everything `searchStep` can do. -/
theorem searchStep_cases (b : Byte) (s : State) :
    (s.config.scanEn = true ∧ b = stx0 ∧ searchStep b s = setRx .have55 1 (storeRx 0 b s)) ∨
    (s.config.scanEn = true ∧ b ≠ stx0 ∧ searchStep b s = s) ∨
    (s.config.scanEn = false ∧ searchStep b s = setRx .collect 1 (storeRx 0 b s)) := by
  unfold searchStep
  cases h : s.config.scanEn <;> by_cases hb : b = stx0 <;> simp [hb]

/-- Everything `have55Step` can do. -/
theorem have55Step_cases (b : Byte) (s : State) :
    (b = stx1 ∧ have55Step b s = setRx .collect 2 (storeRx 1 b s)) ∨
    (b = stx0 ∧ have55Step b s = s) ∨
    (b ≠ stx0 ∧ b ≠ stx1 ∧ have55Step b s = toSearch s) := by
  unfold have55Step
  by_cases h1 : b = stx1
  · simp [h1]
  · by_cases h0 : b = stx0
    · subst h0
      simp [h1]
    · simp [h1, h0]

/-- Everything `collectStep` can do. -/
theorem collectStep_cases (b : Byte) (s : State) :
    (∃ h : s.rxCount.val + 1 < 22,
      collectStep b s = setRx .collect ⟨s.rxCount.val + 1, h⟩ (storeRx s.rxCount b s)) ∨
    (s.rxCount.val = 21 ∧ collectStep b s = complete (storeRx s.rxCount b s)) := by
  unfold collectStep
  have hlt := s.rxCount.isLt
  by_cases h : s.rxCount.val + 1 < 22
  · exact .inl ⟨h, by simp [h]⟩
  · exact .inr ⟨by omega, by simp [h]⟩

/-- Everything RX_BYTE can do, one case per row of R145 (42_rx_decoder.md). -/
theorem execRxByte_cases (b : Byte) (s : State) :
    (s.status.rxState = .search ∧ execRxByte b s = .next (searchStep b s)) ∨
    (s.status.rxState = .have55 ∧ execRxByte b s = .next (have55Step b s)) ∨
    (s.status.rxState = .collect ∧ execRxByte b s = .next (collectStep b s)) := by
  unfold execRxByte
  cases s.status.rxState <;> simp

/-! ### A step -/

/-- Everything a step can do: nothing pending, one command, or the reset input. -/
theorem step_cases (s : State) :
    (s.port = [] ∧ step s = .next s) ∨
    (∃ w rest, s.port = .command w :: rest ∧ step s = exec (decode w) { s with port := rest }) ∨
    (∃ rest, s.port = .reset :: rest ∧ step s = .next (assertReset { s with port := rest })) := by
  unfold step
  match s.port with
  | [] => exact .inl ⟨rfl, rfl⟩
  | .command w :: rest => exact .inr (.inl ⟨w, rest, rfl, rfl⟩)
  | .reset :: rest => exact .inr (.inr ⟨rest, rfl, rfl⟩)

end Sys2Proof.Machine
end

