-- ==== Sys2Proof/Laws/Exec.lean ====
section
/-! SUPPORT. The meaning of each command as one equation over the shared operations, for rewriting with. -/

namespace Sys2Proof.Machine

variable (s : State)

theorem exec_nop : exec .nop s = .next s := rfl
theorem exec_crcInit : exec .crcInit s = .next { s with crcAcc := 0#16 } := rfl
theorem exec_crcByte (b : Byte) : exec (.crcByte b) s = .next { s with crcAcc := crcUpdate s.crcAcc b } := rfl
theorem exec_setYaw (h : Half) : exec (.setYaw h) s = .next { s with yawOut := h } := rfl
theorem exec_setPitch (h : Half) : exec (.setPitch h) s = .next { s with pitchOut := h } := rfl
theorem exec_txControl : exec .txControl s = .next (emitSealed (controlHeader s.yawOut s.pitchOut) s) := rfl
theorem exec_txHome : exec .txHome s = .next (emitSealed (homeHeader s.params.homeVariant) s) := rfl
theorem exec_txAttreq : exec .txAttreq s = .next (emitSealed attreqHeader s) := rfl
theorem exec_rxReset : exec .rxReset s = .next (toSearch s) := rfl
theorem exec_rxByte (b : Byte) : exec (.rxByte b) s = execRxByte b s := rfl
theorem exec_rxAbort : exec .rxAbort s = .next (record (abortOutcome s.status.rxState) (toSearch s)) := rfl
theorem exec_cfgWrite (m : Half) : exec (.cfgWrite m) s = .next { s with config := configOf m } := rfl
theorem exec_statusClear (m : Half) : exec (.statusClear m) s = .next (clearSticky m s) := rfl
theorem exec_illegal : exec .illegal s = .next (cmdError s) := rfl

theorem exec_rxByte_search (b : Byte) (h : s.status.rxState = .search) :
    exec (.rxByte b) s = .next (searchStep b s) := by
  simp [exec_rxByte, execRxByte, h]

theorem exec_rxByte_have55 (b : Byte) (h : s.status.rxState = .have55) :
    exec (.rxByte b) s = .next (have55Step b s) := by
  simp [exec_rxByte, execRxByte, h]

theorem exec_rxByte_collect (b : Byte) (h : s.status.rxState = .collect) :
    exec (.rxByte b) s = .next (collectStep b s) := by
  simp [exec_rxByte, execRxByte, h]

end Sys2Proof.Machine
end

