-- ==== Sys2Proof/Laws/ReadPort.lean ====
section
/-! SUPPORT. The read port away from its named registers (R52, R53, R55, R56 20_memory.md). -/

namespace Sys2Proof.Machine

/-- An address at or above 0x016, or one of the two single reserved addresses, is looked up in the windows. -/
theorem readPort_eq_window (s : State) (a : PortAddr) (h : a.toNat = 0x007 ∨ a.toNat = 0x00F ∨ 0x016 ≤ a.toNat) :
    readPort s a = readWindow s a.toNat := by
  unfold readPort
  split <;> first | rfl | (exfalso; omega)

theorem readWindow_rxBuf (s : State) (k : Fin 22) : readWindow s (0x020 + k.val) = zext8 s.rxBuf[k] := by
  have hk := k.isLt
  unfold readWindow
  rw [dif_pos ⟨by omega, by omega⟩]
  simp

theorem readWindow_table (s : State) (i : Byte) : readWindow s (0x100 + i.toNat) = zext16 (crcEntry i) := by
  have hi := i.isLt
  unfold readWindow
  rw [dif_neg (by omega), if_pos ⟨by omega, by omega⟩]
  simp

theorem readWindow_reserved (s : State) (n : Nat) (h : n < 0x020 ∨ (0x036 ≤ n ∧ n < 0x100) ∨ 0x200 ≤ n) :
    readWindow s n = 0#32 := by
  unfold readWindow
  rw [dif_neg (by omega), if_neg (by omega)]

end Sys2Proof.Machine
end

