-- ==== Sys2Proof/Tests/Slice0.lean ====
section
/-! SUPPORT. The model's own tests: expected values are the vectors and examples of spec/ (95_test_vectors.md and the
examples of the rules), and a witness for the hypotheses of every statement that has some. -/

namespace Sys2Proof.Tests

open Sys2Proof Sys2Proof.Machine

/-- The state a step answers; the reset state where it stops. -/
def after (o : Host.Outcome State Fault Refusal) : State :=
  match o with
  | .next s => s
  | .fault _ => State.reset
  | .refused _ => State.reset

/-- Reset, with one command word on the port. -/
def withWord (w : Nat) : State := State.reset.withFetchWord 32 w

/-- The frame F of 95_test_vectors.md section 2.3. -/
def frameF : Vector Byte 22 :=
  #v[0x55#8, 0x66#8, 0x02#8, 0x0C#8, 0x00#8, 0x00#8, 0x00#8, 0x0D#8, 0xC2#8, 0x01#8, 0x7C#8,
     0xFC#8, 0x00#8, 0x00#8, 0x00#8, 0x00#8, 0x00#8, 0x00#8, 0x00#8, 0x00#8, 0x04#8, 0x3F#8]

/-- The frame of vector R12. -/
def frameR12 : Vector Byte 22 :=
  #v[0x55#8, 0x66#8, 0x02#8, 0x0C#8, 0x00#8, 0x00#8, 0x00#8, 0x0D#8, 0xBA#8, 0xFA#8, 0xAE#8,
     0xFC#8, 0x19#8, 0x00#8, 0x01#8, 0x00#8, 0xFE#8, 0xFF#8, 0x03#8, 0x00#8, 0x58#8, 0x12#8]

/-- The frame of vector R4 (declared length 10, checksum correct). -/
def frameR4 : Vector Byte 22 :=
  #v[0x55#8, 0x66#8, 0x02#8, 0x0A#8, 0x00#8, 0x00#8, 0x00#8, 0x0D#8, 0x01#8, 0x00#8, 0x02#8,
     0x00#8, 0x03#8, 0x00#8, 0x04#8, 0x00#8, 0x05#8, 0x00#8, 0x06#8, 0x00#8, 0x44#8, 0x68#8]

/-- F with byte 20 changed to 0x05 (F'). -/
def frameBadCrc : Vector Byte 22 := frameF.set 20 0x05#8

/-- F with byte 0 changed to 0xAA (vector R5). -/
def frameBadStx : Vector Byte 22 := frameF.set 0 0xAA#8

/-- A decoder holding the first 21 bytes of f. -/
def holding21 (f : Vector Byte 22) (c : ConfigReg) : State :=
  { State.reset with
    config := c
    status := { State.reset.status with rxState := .collect }
    rxCount := 21
    rxBuf := f.set 21 0x00#8 }

/-- CONFIG after reset, and with strict checking. -/
def lax : ConfigReg := { scanEn := true, crcStrict := false }
def strict : ConfigReg := { scanEn := true, crcStrict := true }

/-- The state after the last byte of f. -/
def completed (f : Vector Byte 22) (c : ConfigReg) : State := after (exec (.rxByte f[21]) (holding21 f c))

/-- A decoder in a given receive state and position. -/
def receiving (x : RxState) (n : Fin 22) : State :=
  { State.reset with status := { State.reset.status with rxState := x }, rxCount := n, rxBuf := frameF }

/-! ### WellFormed -/

theorem test_cfgWrite_ill_formed : (Instr.cfgWrite 0x0004#16).wellFormed = false := by decide
theorem test_statusClear_ill_formed : (Instr.statusClear 0x0001#16).wellFormed = false := by decide
theorem test_well_formed : (Instr.cfgWrite 0x0003#16).wellFormed = true ∧ (Instr.statusClear 0x0184#16).wellFormed = true := by decide

/-! ### Decode: words written out from R70, R74 (30_encoding.md) -/

theorem test_decode_nop : decode 0b00000000_00000000_00000000_00000000#32 = .nop := by decide
theorem test_decode_crcInit : decode 0b00000001_00000000_00000000_00000000#32 = .crcInit := by decide
theorem test_decode_crcByte : decode 0b00000010_00000000_00000000_01010101#32 = .crcByte 0x55#8 := by decide
theorem test_decode_setYaw : decode 0b00010000_00000000_11111111_00111000#32 = .setYaw 0xFF38#16 := by decide
theorem test_decode_setPitch : decode 0b00010001_00000000_11111110_11010100#32 = .setPitch 0xFED4#16 := by decide
theorem test_decode_txControl : decode 0b00100000_00000000_00000000_00000000#32 = .txControl := by decide
theorem test_decode_txHome : decode 0b00100001_00000000_00000000_00000000#32 = .txHome := by decide
theorem test_decode_txAttreq : decode 0b00100010_00000000_00000000_00000000#32 = .txAttreq := by decide
theorem test_decode_rxReset : decode 0b00110000_00000000_00000000_00000000#32 = .rxReset := by decide
theorem test_decode_rxByte : decode 0b00110001_00000000_00000000_11111100#32 = .rxByte 0xFC#8 := by decide
theorem test_decode_rxAbort : decode 0b00110010_00000000_00000000_00000000#32 = .rxAbort := by decide
theorem test_decode_cfgWrite : decode 0b01000000_00000000_00000000_00000011#32 = .cfgWrite 0x0003#16 := by decide
theorem test_decode_statusClear : decode 0b01000001_00000000_00000001_10000100#32 = .statusClear 0x0184#16 := by decide

/-- K2 to K7, K9, K11: one word for each ground of R76. -/
theorem test_decode_illegal :
    decode 0x00000001#32 = .illegal ∧ decode 0x00010000#32 = .illegal ∧ decode 0xFF000000#32 = .illegal ∧
    decode 0x02000100#32 = .illegal ∧ decode 0x31000155#32 = .illegal ∧ decode 0x10FF0001#32 = .illegal ∧
    decode 0x40000004#32 = .illegal ∧ decode 0x41000001#32 = .illegal := by decide

/-- K14: the neighbours of assigned ops. -/
theorem test_decode_neighbours :
    decode 0x23000000#32 = .illegal ∧ decode 0x33000000#32 = .illegal ∧ decode 0x42000000#32 = .illegal ∧
    decode 0x03000000#32 = .illegal := by decide

theorem test_decodeTableWord : decodeTableWord 32 0x31000055 = some (.rxByte 0x55#8) := by decide

/-- The examples of R79 and R80 (30_encoding.md). -/
theorem test_assemble :
    assemble "SET_PITCH -300" = some [.setPitch 0xFED4#16] ∧
    assemble "STATUS_CLEAR DONE|OVERRUN" = some [.statusClear 0x0084#16] ∧
    assemble "RX_BYTE 0x55" = some [.rxByte 0x55#8] ∧ assemble "CFG_STRICT" = some [.cfgWrite 0x0003#16] := by decide
theorem test_assemble_errors :
    assemble "RX_BYTE 256" = none ∧ assemble "CFG_WRITE 0x0004" = none ∧ assemble "CFG_WRITE DONE" = none := by decide

/-! ### CRC engine: vectors C9, C12, C16, C17 and the trace of R111 -/

theorem test_crc_check : crc16 [0x31#8, 0x32#8, 0x33#8, 0x34#8, 0x35#8, 0x36#8, 0x37#8, 0x38#8, 0x39#8] = 0x31C3#16 := by decide
theorem test_crc_ff : crc16 [0xFF#8, 0xFF#8] = 0x1D0F#16 := by decide
theorem test_crc_update : crcUpdate 0xFFFF#16 0xFF#8 = 0xFF00#16 ∧ crcUpdate 0x1234#16 0x00#8 = 0x0673#16 := by decide
theorem test_crcInit : (after (exec .crcInit { State.reset with crcAcc := 0x05E8#16 })).crcAcc = 0x0000#16 := by decide
theorem test_crcByte : (after (step { withWord 0x02000066 with crcAcc := 0x0A50#16 })).crcAcc = 0xFD2A#16 := by decide

/-! ### Frame encoder: vectors T1, T3, T8 to T11 -/

theorem test_setYaw : readPort (after (step (withWord 0x1000FF38))) 0x004#10 = 0xFFFFFF38#32 := by decide
theorem test_setPitch : readPort (after (step (withWord 0x1100FED4))) 0x005#10 = 0xFFFFFED4#32 := by decide
theorem test_txControl :
    (after (exec .txControl { State.reset with yawOut := 0x01C2#16, pitchOut := 0xFED4#16 })).txOut =
      [0x55#8, 0x66#8, 0x01#8, 0x04#8, 0x00#8, 0x00#8, 0x00#8, 0x0E#8, 0xC2#8, 0x01#8, 0xD4#8, 0xFE#8, 0x26#8, 0x79#8] := by
  decide
theorem test_txControl_extremes :
    (after (exec .txControl { State.reset with yawOut := 0x7FFF#16, pitchOut := 0x8000#16 })).txLastCrc = 0xE9FA#16 := by decide
theorem test_txHome_table :
    (after (step (withWord 0x21000000))).txOut =
      [0x55#8, 0x66#8, 0x01#8, 0x00#8, 0x00#8, 0x00#8, 0x00#8, 0x01#8, 0x01#8, 0xE9#8, 0xED#8] := by decide
theorem test_txHome_vec8 :
    (after (exec .txHome { State.reset with params := { homeVariant := .vec8 } })).txOut =
      [0x55#8, 0x66#8, 0x01#8, 0x01#8, 0x00#8, 0x00#8, 0x00#8, 0x08#8, 0x01#8, 0xD1#8, 0x12#8] := by decide
theorem test_txAttreq :
    (after (step (withWord 0x22000000))).txOut =
      [0x55#8, 0x66#8, 0x01#8, 0x00#8, 0x00#8, 0x00#8, 0x00#8, 0x0D#8, 0xE8#8, 0x05#8] := by decide

/-! ### Frame decoder: vectors R1 to R8, R12, R20 to R22, each its last step -/

theorem test_rxByte_ok :
    readPort (completed frameF lax) 0x002#10 = 0x00000014#32 ∧ (completed frameF lax).yawRaw = 450#16 ∧
    readPort (completed frameF lax) 0x00E#10 = 900#32 ∧ (completed frameF lax).rxCrcCalc = 0x3F04#16 ∧
    (completed frameF lax).rxCount = 0 := by decide
theorem test_rxByte_fields :
    readPort (completed frameR12 lax) 0x008#10 = 0xFFFFFABA#32 ∧ readPort (completed frameR12 lax) 0x00A#10 = 0x19#32 ∧
    readPort (completed frameR12 lax) 0x00B#10 = 1#32 ∧ readPort (completed frameR12 lax) 0x00C#10 = 0xFFFFFFFE#32 ∧
    readPort (completed frameR12 lax) 0x00D#10 = 3#32 ∧ readPort (completed frameR12 lax) 0x00E#10 = 0xFFFFF5A6#32 := by decide
theorem test_rxByte_mismatch :
    statusWord (completed frameBadCrc lax).status = 0x0024#16 ∧ (completed frameBadCrc lax).pitchDd = 900#32 := by decide
theorem test_rxByte_rejected :
    statusWord (completed frameBadCrc strict).status = 0x0054#16 ∧ (completed frameBadCrc strict).yawRaw = 0#16 ∧
    (completed frameBadCrc strict).rxCrcRecv = 0x3F05#16 := by decide
theorem test_rxByte_length :
    statusWord (completed frameR4 lax).status = 0x0044#16 ∧ (completed frameR4 lax).rxLen = 10#16 ∧
    (completed frameR4 lax).rxCrcCalc = 0x6844#16 := by decide
theorem test_rxByte_sync :
    statusWord (completed frameBadStx { scanEn := false, crcStrict := false }).status = 0x0034#16 ∧
    (completed frameBadStx { scanEn := false, crcStrict := false }).rxCrcCalc = 0x60C7#16 := by decide
theorem test_rxByte_first : readPort (after (step (withWord 0x31000055))) 0x002#10 = 0x00000001#32 := by decide
theorem test_rxByte_scan_off :
    statusWord (after (exec (.rxByte 0x13#8) { State.reset with config := { scanEn := false, crcStrict := false } })).status =
      0x0002#16 := by decide
theorem test_rxAbort_timeout : readPort (after (step (withWord 0x32000000))) 0x002#10 = 0x00000064#32 := by decide
theorem test_rxAbort_short :
    statusWord (after (exec .rxAbort (receiving .collect 15))).status = 0x0074#16 := by decide
theorem test_rxReset : (after (exec .rxReset (receiving .collect 9))).rxCount = 0 := by decide
theorem test_pitch_boundary :
    pitchDdOf (u16of (-900)) = 900#32 ∧ pitchDdOf (u16of (-899)) = BitVec.ofInt 32 (-2699) ∧
    pitchDdOf (u16of (-32768)) = 32768#32 ∧ pitchDdOf (u16of 32767) = 30967#32 := by decide

/-! ### Control: vectors K1, K4, K5, K8, K12, K15, K16 and the examples of R171, R172 -/

theorem test_nop : step (withWord 0x00000000) = .next State.reset := rfl
theorem test_cfgWrite : readPort (after (step (withWord 0x40000003))) 0x001#10 = 0x00000003#32 := by decide
theorem test_cfgWrite_zero : readPort (after (step (withWord 0x40000000))) 0x001#10 = 0x00000000#32 := by decide
theorem test_statusClear :
    statusWord (after (exec (.statusClear 0x0004#16) (completed frameF lax))).status = 0x0010#16 := by decide
theorem test_statusClear_cmdErr :
    statusWord (after (exec (.statusClear 0x0100#16) (after (exec .illegal State.reset)))).status = 0x0000#16 := by decide
theorem test_illegal : readPort (after (step (withWord 0xFF000000))) 0x002#10 = 0x00000100#32 := by decide
theorem test_illegal_not_partly : (after (step (withWord 0x020001FF))).crcAcc = 0x0000#16 := by decide
theorem test_read_reserved :
    readPort State.reset 0x007#10 = 0#32 ∧ readPort State.reset 0x0FF#10 = 0#32 ∧ readPort State.reset 0x3FF#10 = 0#32 := by decide
theorem test_read_table : readPort State.reset 0x155#10 = 0x00000A50#32 := by decide
theorem test_overrun : statusWord (record .shortFrame (completed frameBadCrc strict)).status = 0x00F4#16 := by decide

/-! ### Witnesses: the hypotheses of each statement, met together -/

theorem witness_DecodeOfEncodeIsSame : (Instr.statusClear 0x0184#16).wellFormed = true := by decide
theorem witness_EncodeOfDecodeIsSame : decode 0x31000055#32 ≠ .illegal := by decide
theorem witness_IllegalWordsExactly :
    (withWord 0xFF000000).port = .command 0xFF000000#32 :: [] ∧ decode 0xFF000000#32 = .illegal := by decide
theorem witness_ReservedFieldIsIllegal : (0x00010000#32 : Word).extractLsb' 16 8 ≠ 0#8 := by decide
theorem witness_OpcodeTableAgrees :
    (⟨0x31#8, 0x31000000#32, 0xFFFFFF00#32⟩ : OpcodeRow) ∈ opcodeRows ∧
    (0x31000055#32 : Word) &&& 0xFFFFFF00#32 = 0x31000000#32 := by decide
theorem witness_OpcodeTableAgrees_none : ∀ r ∈ opcodeRows, ¬ ((0xFF000000#32 : Word) &&& r.mask = r.pattern) := by decide
theorem witness_AssemblerWritesLegalWords :
    assemble "ACK_ALL" = some [.statusClear 0x0184#16] ∧ Instr.statusClear 0x0184#16 ∈ [Instr.statusClear 0x0184#16] := by decide
theorem witness_StepRunsDecoded : (withWord 0x20000000).port = .command 0x20000000#32 :: [] := by decide
theorem witness_IdleBlockIsUnchanged : State.reset.port = [] := by decide
theorem witness_ResetInputSetsResetValues :
    ({ receiving .collect 15 with port := [.reset] } : State).port = .reset :: [] := by decide
theorem witness_EveryStepKeepsInvariant :
    BlockInv (withWord 0x31000055) ∧ ∃ t, step (withWord 0x31000055) = .next t := ⟨by decide, _, rfl⟩
theorem witness_CrcInitClearsAccumulator :
    (0x01000000#32 : Word).extractLsb' 24 8 = 0x01#8 ∧ (0x01000001#32 : Word).extractLsb' 24 8 = 0x01#8 := by decide
theorem witness_CrcByteUpdatesAccumulator :
    (0x020000FF#32 : Word).extractLsb' 24 8 = 0x02#8 ∧ (0x02000100#32 : Word).extractLsb' 24 8 = 0x02#8 := by decide
theorem witness_AccumulatorIsIndependent :
    isCrc .txHome = false ∧ (∃ t, exec .txHome State.reset = .next t) ∧ isCrc (.crcByte 0x55#8) = true :=
  ⟨by decide, ⟨_, rfl⟩, by decide⟩
theorem witness_TxControlEmitsFrame :
    ∃ s : State, s.yawOut = BitVec.ofInt 16 450 ∧ s.pitchOut = BitVec.ofInt 16 (-300) :=
  ⟨{ State.reset with yawOut := 0x01C2#16, pitchOut := 0xFED4#16 }, by decide⟩
theorem witness_TxControlEmitsFrame_words :
    (0x20000000#32 : Word).extractLsb' 24 8 = 0x20#8 ∧ (0x20000001#32 : Word).extractLsb' 24 8 = 0x20#8 := by decide
theorem witness_TxHomeEmitsFrame :
    State.reset.params.homeVariant = .table ∧
    ({ State.reset with params := { homeVariant := .vec8 } } : State).params.homeVariant = .vec8 ∧
    (0x21000000#32 : Word).extractLsb' 24 8 = 0x21#8 ∧ (0x21000001#32 : Word).extractLsb' 24 8 = 0x21#8 := by decide
theorem witness_TxAttreqEmitsFrame :
    (0x22000000#32 : Word).extractLsb' 24 8 = 0x22#8 ∧ (0x22010000#32 : Word).extractLsb' 24 8 = 0x22#8 := by decide
theorem witness_EveryFrameIsSealed : isTx .txControl = true ∧ isTx .txHome = true ∧ isTx .txAttreq = true := by decide
theorem witness_ControlFrameCarriesAngles :
    (-32768 : Int) ≤ -32768 ∧ (-32768 : Int) ≤ 32767 ∧ (-32768 : Int) ≤ 32767 ∧ (32767 : Int) ≤ 32767 := by decide
theorem witness_FramesAreBackToBack : ∀ i ∈ [Instr.txControl, .txHome, .txControl, .txAttreq], isTx i = true := by decide
theorem witness_OutputOnlyGrows :
    (∃ t, step (withWord 0x22000000) = .next t) ∧ ∃ t, exec .txAttreq State.reset = .next t := ⟨⟨_, rfl⟩, _, rfl⟩
theorem witness_EncoderIgnoresDecoder :
    isTx .txControl = true ∧ State.reset.yawOut = (receiving .collect 15).yawOut ∧
    State.reset.pitchOut = (receiving .collect 15).pitchOut ∧ State.reset.params = (receiving .collect 15).params := by decide
theorem witness_RxResetDropsFrame :
    (0x30000000#32 : Word).extractLsb' 24 8 = 0x30#8 ∧ (0x30000001#32 : Word).extractLsb' 24 8 = 0x30#8 := by decide
theorem witness_RxByteInSearch :
    State.reset.status.rxState = .search ∧ State.reset.config.scanEn = true ∧ (0x54#8 : Byte) ≠ 0x55#8 := by decide
theorem witness_RxByteInSearch_scan_off :
    ∃ s : State, s.status.rxState = .search ∧ s.config.scanEn = false :=
  ⟨{ State.reset with config := { scanEn := false, crcStrict := false } }, by decide⟩
theorem witness_RxByteInHave55 :
    (receiving .have55 1).status.rxState = .have55 ∧ (0x13#8 : Byte) ≠ 0x66#8 ∧ (0x13#8 : Byte) ≠ 0x55#8 := by decide
theorem witness_RxByteInCollect :
    (receiving .collect 1).status.rxState = .collect ∧ (2 : Fin 22).val = (receiving .collect 1).rxCount.val + 1 ∧
    (receiving .collect 20).status.rxState = .collect ∧ (21 : Fin 22).val = (receiving .collect 20).rxCount.val + 1 := by decide

/-- The three hypotheses on the state before the last byte of f, and the frame it completes. -/
abbrev MeetsCompletion (f : Vector Byte 22) (c : ConfigReg) : Prop :=
  (holding21 f c).status.rxState = .collect ∧ (holding21 f c).rxCount.val = 21 ∧ f = (holding21 f c).rxBuf.set 21 f[21]

theorem witness_RxByteCompletesFrame_sync :
    MeetsCompletion frameBadStx lax ∧ ¬ (frameBadStx[0] = 0x55#8 ∧ frameBadStx[1] = 0x66#8) := by decide
theorem witness_RxByteCompletesFrame_length :
    MeetsCompletion frameR4 lax ∧ frameR4[0] = 0x55#8 ∧ frameR4[1] = 0x66#8 ∧ frameR4[4] ++ frameR4[3] ≠ 12#16 := by decide
theorem witness_RxByteCompletesFrame_rejected :
    MeetsCompletion frameBadCrc strict ∧ frameBadCrc[0] = 0x55#8 ∧ frameBadCrc[1] = 0x66#8 ∧
    frameBadCrc[4] ++ frameBadCrc[3] = 12#16 ∧
    crc16 (frameBadCrc.toList.take 20) ≠ frameBadCrc[21] ++ frameBadCrc[20] ∧
    (holding21 frameBadCrc strict).config.crcStrict = true := by decide
theorem witness_RxByteCompletesFrame_mismatch :
    MeetsCompletion frameBadCrc lax ∧ frameBadCrc[0] = 0x55#8 ∧ frameBadCrc[1] = 0x66#8 ∧
    frameBadCrc[4] ++ frameBadCrc[3] = 12#16 ∧
    crc16 (frameBadCrc.toList.take 20) ≠ frameBadCrc[21] ++ frameBadCrc[20] ∧
    (holding21 frameBadCrc lax).config.crcStrict = false := by decide
theorem witness_RxByteCompletesFrame_ok :
    MeetsCompletion frameF lax ∧ frameF[0] = 0x55#8 ∧ frameF[1] = 0x66#8 ∧ frameF[4] ++ frameF[3] = 12#16 ∧
    crc16 (frameF.toList.take 20) = frameF[21] ++ frameF[20] := by decide
theorem witness_RxAbortRecordsOutcome :
    (0x32000000#32 : Word).extractLsb' 24 8 = 0x32#8 ∧ (0x32000001#32 : Word).extractLsb' 24 8 = 0x32#8 := by decide
theorem witness_FieldsLoadTogether : ∃ t, exec (.rxByte 0x3F#8) (holding21 frameF lax) = .next t := ⟨_, rfl⟩
theorem witness_ScanNeverSyncError :
    BlockInv State.reset ∧ InSync State.reset ∧ State.reset.config.scanEn = true ∧
    State.reset.status.result ≠ .syncError ∧ (0x0003#16 : Half).getLsbD 0 = true ∧
    ∃ t, execAll [.cfgWrite 0x0003#16, .rxByte 0x55#8, .rxByte 0x66#8] State.reset = .next t :=
  ⟨by decide, by decide, by decide, by decide, by decide, _, rfl⟩
theorem witness_ConfigIsReadWhereUsed :
    (∀ m : Half, Instr.rxByte 0x66#8 ≠ .cfgWrite m) ∧ (∃ t, exec (.rxByte 0x66#8) (receiving .have55 1) = .next t) ∧
    (receiving .have55 1).status.rxState ≠ .search ∧ recordsOutcome (.rxByte 0x66#8) (receiving .have55 1) = false :=
  ⟨fun _ => Instr.noConfusion, ⟨_, rfl⟩, by decide, by decide⟩
theorem witness_StaleBytesAreKept :
    BlockInv State.reset ∧ (∃ t, exec (.rxByte 0x55#8) State.reset = .next t) ∧
    (after (exec (.rxByte 0x55#8) State.reset)).rxBuf[(0 : Fin 22)] ≠ State.reset.rxBuf[(0 : Fin 22)] :=
  ⟨by decide, ⟨_, rfl⟩, by decide⟩
theorem witness_ScanSyncsOnLastOfRun :
    State.reset.status.rxState = .search ∧ State.reset.config.scanEn = true ∧
    ∀ b ∈ [0x00#8, 0x66#8, 0x13#8], b ≠ (0x55#8 : Byte) := by decide
theorem witness_ValidReportIsReceived :
    State.reset.status.rxState = .search ∧ State.reset.config.scanEn = true ∧ frameF[0] = 0x55#8 ∧ frameF[1] = 0x66#8 ∧
    frameF[3] = 12#8 ∧ frameF[4] = 0#8 ∧ crc16 (frameF.toList.take 20) = frameF[21] ++ frameF[20] := by decide
theorem witness_NopChangesNothing :
    (0x00000000#32 : Word).extractLsb' 24 8 = 0x00#8 ∧ (0x00000001#32 : Word).extractLsb' 24 8 = 0x00#8 := by decide
theorem witness_CfgWriteSetsConfig :
    (0x0003#16 : Half) &&& 0xFFFC#16 = 0#16 ∧ (0x0004#16 : Half) &&& 0xFFFC#16 ≠ 0#16 := by decide
theorem witness_StatusClearClearsSelected :
    (0x0184#16 : Half) &&& 0xFE7B#16 = 0#16 ∧ (0x0001#16 : Half) &&& 0xFE7B#16 ≠ 0#16 := by decide
theorem witness_ControlCommandsFrame :
    isControl .illegal = true ∧ (∃ t, exec .illegal (receiving .collect 15) = .next t) ∧
    (0x0004#16 : Half).getLsbD 7 = false ∧ (0x0080#16 : Half).getLsbD 2 = false ∧ (0x0080#16 : Half).getLsbD 8 = false :=
  ⟨by decide, ⟨_, rfl⟩, by decide⟩
theorem witness_RecordSetsOutcome :
    State.reset.status.done = false ∧ (completed frameF lax).status.done = true := by decide
theorem witness_OutcomesRecordedOnlyByReceive :
    (∃ t, exec (.rxByte 0x3F#8) (holding21 frameF lax) = .next t) ∧
    recordsOutcome (.rxByte 0x3F#8) (holding21 frameF lax) = true ∧
    recordsOutcome (.rxByte 0x3F#8) (receiving .collect 20) = false := ⟨⟨_, rfl⟩, by decide, by decide⟩
theorem witness_OutcomesLeaveEncoderAlone :
    recordsOutcome .rxAbort State.reset = true ∧ recordsOutcome (.rxByte 0x3F#8) (holding21 frameF lax) = true := by decide
theorem witness_ReadPortMap :
    (0x016#10 : PortAddr).toNat = 0x016 ∧ (0x01F#10 : PortAddr).toNat = 0x01F ∧ (0x036#10 : PortAddr).toNat = 0x036 ∧
    (0x0FF#10 : PortAddr).toNat = 0x0FF ∧ (0x200#10 : PortAddr).toNat = 0x200 ∧ (0x3FF#10 : PortAddr).toNat = 0x3FF := by decide

end Sys2Proof.Tests
end

namespace Sys2Proof.Machine

/-- The case of `step` in which the oldest event is a command (R13 00_scope.md), as an equation for rewriting with. -/
theorem step_of_port_command {s : State} {w : Word} {rest : List HostEvent} (hport : s.port = .command w :: rest) :
    step s = exec (decode w) { s with port := rest } := by
  simp only [step, hport]

/-- Settles O8: it is the command case of `step`, whatever the rest of the state. -/
theorem stepRunsDecoded : Obligations.StepRunsDecoded :=
  fun _ _ _ hport => step_of_port_command hport

end Sys2Proof.Machine

namespace Sys2Proof.Machine

/-! ### 10_state.md: what one step does to the registers -/

/-- The case of `step` in which the oldest event is the reset input (R200 70_reset_and_hazards.md), as an equation for
rewriting with. -/
theorem step_of_port_reset {s : State} {rest : List HostEvent} (hport : s.port = .reset :: rest) :
    step s = .next (assertReset { s with port := rest }) := by
  simp only [step, hport]

/-! ### RX_BYTE, once for all three receive states -/

/-- The bytes of a frame field stand least significant first (R58 20_memory.md). -/
theorem frameHalf_eq_append (f : Vector Byte 22) (k : Nat) (h : k + 1 < 22) : frameHalf f k h = f[k + 1] ++ f[k] :=
  le16_eq_append _ _

/-- Everything RX_BYTE can do to the state, over the rows of R145 (42_rx_decoder.md): nothing, a drop to SEARCH, a
byte stored with the receive state and position moved on, or the completion of a frame. -/
theorem exec_rxByte_inv {b : Byte} {s t : State} (h : exec (.rxByte b) s = .next t) :
    t = s ∨ t = toSearch s ∨ (b = stx0 ∧ t = setRx .have55 1 (storeRx 0 b s)) ∨
    (∃ n k : Fin 22, 1 ≤ n.val ∧ t = setRx .collect n (storeRx k b s)) ∨
    (s.status.rxState = .collect ∧ s.rxCount.val = 21 ∧ t = complete (storeRx s.rxCount b s)) := by
  rw [exec_rxByte] at h
  obtain ⟨-, he⟩ | ⟨-, he⟩ | ⟨hrx, he⟩ := execRxByte_cases b s <;> obtain rfl := Host.Outcome.next.inj (he.symm.trans h)
  · obtain ⟨-, hb, ht⟩ | ⟨-, -, ht⟩ | ⟨-, ht⟩ := searchStep_cases b s
    · exact .inr (.inr (.inl ⟨hb, ht⟩))
    · exact .inl ht
    · exact .inr (.inr (.inr (.inl ⟨1, 0, le_refl _, ht⟩)))
  · obtain ⟨-, ht⟩ | ⟨-, ht⟩ | ⟨-, -, ht⟩ := have55Step_cases b s
    · exact .inr (.inr (.inr (.inl ⟨2, 1, by decide, ht⟩)))
    · exact .inl ht
    · exact .inr (.inl ht)
  · obtain ⟨hlt, ht⟩ | ⟨hfull, ht⟩ := collectStep_cases b s
    · exact .inr (.inr (.inr (.inl ⟨_, _, Nat.le_add_left 1 _, ht⟩)))
    · exact .inr (.inr (.inr (.inr ⟨hrx, hfull, ht⟩)))

/-- The outcomes that load the fields are the two OK ones (R153 42_rx_decoder.md). -/
theorem RxResult.accepted_iff (o : RxResult) : o.accepted = true ↔ o = .ok ∨ o = .okCrcMismatch := by
  cases o <;> decide

/-- The checks of a completion always name an outcome (R152 42_rx_decoder.md). -/
theorem frameOutcome_ne_none (s : State) : frameOutcome s ≠ .none := by
  obtain ⟨h, -⟩ | ⟨h, -⟩ | ⟨h, -⟩ | ⟨h, -⟩ | ⟨h, -⟩ := frameOutcome_cases s <;> simp [h]

/-- An abort always names an outcome (R159 42_rx_decoder.md). -/
theorem abortOutcome_ne_none (x : RxState) : abortOutcome x ≠ .none := by
  cases x <;> decide

/-- A completion either rejects the frame and only loads its header, or accepts it and loads the fields too
(R152, R153 42_rx_decoder.md). -/
theorem complete_cases (s : State) :
    ∃ o : RxResult, o ≠ .none ∧
      ((o.accepted = false ∧ complete s = record o (toSearch (loadHeader s))) ∨
       (o.accepted = true ∧ complete s = record o (loadFields (toSearch (loadHeader s))))) := by
  obtain ⟨o, ho, hc⟩ := complete_eq s
  refine ⟨o, ho ▸ frameOutcome_ne_none _, ?_⟩
  cases ha : o.accepted <;> simp [hc, ha]

/-! ### The invariant of the block (R36, R48, R49), operation by operation -/

theorem rxAgrees_toSearch (s : State) : RxAgrees (toSearch s) := by
  simp [RxAgrees]

/-- The byte kept on entering HAVE55 is the first byte of the STX. -/
theorem rxAgrees_have55 (s : State) : RxAgrees (setRx .have55 1 (storeRx 0 stx0 s)) := by
  simp [RxAgrees]

theorem rxAgrees_collect (n : Fin 22) (hn : 1 ≤ n.val) (s : State) : RxAgrees (setRx .collect n s) := by
  have hlt := n.isLt
  simp only [RxAgrees, setRx_status, setRx_rxCount, reduceCtorEq, false_iff, false_imp_iff, true_and, forall_const]
  omega

/-- Once an outcome is recorded, DONE and OVERRUN have something to stand for. -/
theorem blockInv_record {o : RxResult} {s : State} (ho : o ≠ .none) (hrx : RxAgrees s) (hf : FieldsAgree s) :
    BlockInv (record o s) :=
  ⟨hrx, hf, fun _ => ho, fun _ => ho⟩

theorem blockInv_complete {s : State} (hf : FieldsAgree s) : BlockInv (complete s) := by
  obtain ⟨o, ho, ⟨-, hc⟩ | ⟨-, hc⟩⟩ := complete_cases s <;> rw [hc]
  · exact blockInv_record ho (rxAgrees_toSearch _) hf
  · exact blockInv_record ho (rxAgrees_toSearch _) (.inr rfl)

theorem blockInv_clearSticky (m : Half) {s : State} (hs : BlockInv s) : BlockInv (clearSticky m s) := by
  obtain ⟨hrx, hf, hdone, hover⟩ := hs
  exact ⟨hrx, hf, fun h => hdone (Bool.and_elim_left h), fun h => hover (Bool.and_elim_left h)⟩

theorem exec_rxByte_keeps_blockInv {b : Byte} {s t : State} (hs : BlockInv s) (h : exec (.rxByte b) s = .next t) :
    BlockInv t := by
  have ⟨_, hf, ho⟩ := hs
  obtain rfl | rfl | ⟨rfl, rfl⟩ | ⟨n, k, hn, rfl⟩ | ⟨-, -, rfl⟩ := exec_rxByte_inv h
  · exact hs
  · exact ⟨rxAgrees_toSearch s, hf, ho⟩
  · exact ⟨rxAgrees_have55 s, hf, ho⟩
  · exact ⟨rxAgrees_collect n hn _, hf, ho⟩
  · exact blockInv_complete hf

/-- Every command keeps the invariant; only the commands that write STATUS or the receive position need a reason. -/
theorem exec_keeps_blockInv {i : Instr} {s t : State} (hs : BlockInv s) (h : exec i s = .next t) : BlockInv t := by
  have ⟨_, hf, ho⟩ := hs
  cases i with
  | rxByte b => exact exec_rxByte_keeps_blockInv hs h
  | rxReset =>
    obtain rfl := Host.Outcome.next.inj h
    exact ⟨rxAgrees_toSearch s, hf, ho⟩
  | rxAbort =>
    obtain rfl := Host.Outcome.next.inj h
    exact blockInv_record (abortOutcome_ne_none _) (rxAgrees_toSearch s) hf
  | statusClear m =>
    obtain rfl := Host.Outcome.next.inj h
    exact blockInv_clearSticky m hs
  | _ =>
    obtain rfl := Host.Outcome.next.inj h
    exact hs

/-- Settles O12: the reset state is one concrete state, and BlockInv is decidable on it. -/
theorem resetStateMeetsInvariant : Obligations.ResetStateMeetsInvariant := by
  unfold Obligations.ResetStateMeetsInvariant
  decide

/-- The invariant does not speak of what the reset input keeps: tx_out, the parameter and the port. -/
theorem blockInv_assertReset (s : State) : BlockInv (assertReset s) := resetStateMeetsInvariant

/-- Settles O13, by the cases of a step: nothing pending, one command, the reset input. -/
theorem everyStepKeepsInvariant : Obligations.EveryStepKeepsInvariant := by
  intro s t hs h
  obtain ⟨-, hstep⟩ | ⟨w, rest, -, hstep⟩ | ⟨rest, -, hstep⟩ := step_cases s <;> rw [hstep] at h
  · obtain rfl := Host.Outcome.next.inj h
    exact hs
  · exact exec_keeps_blockInv (s := { s with port := rest }) hs h
  · obtain rfl := Host.Outcome.next.inj h
    exact blockInv_assertReset _

/-! ### tx_out (R43) -/

@[simp] theorem complete_txOut (s : State) : (complete s).txOut = s.txOut := by
  obtain ⟨o, -, ⟨-, hc⟩ | ⟨-, hc⟩⟩ := complete_cases s <;> simp [hc]

/-- A command appends its frame, and one that is no TX command the empty frame. -/
theorem exec_txOut {i : Instr} {s t : State} (h : exec i s = .next t) : t.txOut = s.txOut ++ txFrame i s := by
  cases i with
  | rxByte b =>
    obtain rfl | rfl | ⟨-, rfl⟩ | ⟨n, k, -, rfl⟩ | ⟨-, -, rfl⟩ := exec_rxByte_inv h <;> simp [txFrame]
  | _ =>
    obtain rfl := Host.Outcome.next.inj h
    simp [txFrame]

/-- Settles O31: a step is idle, a reset, which keeps tx_out, or a command, which appends its frame. -/
theorem outputOnlyGrows : Obligations.OutputOnlyGrows := by
  refine ⟨fun s t h => ?_, fun _ _ _ => exec_txOut⟩
  obtain ⟨-, hstep⟩ | ⟨w, rest, -, hstep⟩ | ⟨rest, -, hstep⟩ := step_cases s <;> rw [hstep] at h
  · obtain rfl := Host.Outcome.next.inj h
    exact List.prefix_refl _
  · exact ⟨_, (exec_txOut h).symm⟩
  · obtain rfl := Host.Outcome.next.inj h
    exact List.prefix_refl _

/-! ### The seven field registers (R49) -/

/-- The seven field registers of t are those of s. -/
abbrev FieldsKept (s t : State) : Prop :=
  t.yawRaw = s.yawRaw ∧ t.pitchRaw = s.pitchRaw ∧ t.rollRaw = s.rollRaw ∧ t.yawRate = s.yawRate ∧
  t.pitchRate = s.pitchRate ∧ t.rollRate = s.rollRate ∧ t.pitchDd = s.pitchDd

/-- The seven field registers are those of the frame in RX_BUF (R153 42_rx_decoder.md). -/
abbrev FieldsOfBuffer (t : State) : Prop :=
  t.yawRaw = t.rxBuf[9] ++ t.rxBuf[8] ∧ t.pitchRaw = t.rxBuf[11] ++ t.rxBuf[10] ∧
  t.rollRaw = t.rxBuf[13] ++ t.rxBuf[12] ∧ t.yawRate = t.rxBuf[15] ++ t.rxBuf[14] ∧
  t.pitchRate = t.rxBuf[17] ++ t.rxBuf[16] ∧ t.rollRate = t.rxBuf[19] ++ t.rxBuf[18] ∧
  t.pitchDd = pitchDdOf t.pitchRaw

theorem fieldsKept_refl (s : State) : FieldsKept s s := ⟨rfl, rfl, rfl, rfl, rfl, rfl, rfl⟩

theorem fieldsOfBuffer_loadFields (s : State) : FieldsOfBuffer (loadFields s) := by
  simp [FieldsOfBuffer, frameHalf_eq_append]

/-- A completion loads all seven fields on an accepted frame and none on any other. -/
theorem complete_fields (s : State) :
    FieldsKept s (complete s) ∨
    (((complete s).status.result = .ok ∨ (complete s).status.result = .okCrcMismatch) ∧
      FieldsOfBuffer (complete s)) := by
  obtain ⟨o, -, ⟨-, hc⟩ | ⟨ha, hc⟩⟩ := complete_cases s <;> rw [hc]
  · exact .inl (fieldsKept_refl s)
  · exact .inr ⟨o.accepted_iff.mp ha, fieldsOfBuffer_loadFields _⟩

/-- Settles O40: only the completion of a frame writes the fields. -/
theorem fieldsLoadTogether : Obligations.FieldsLoadTogether := by
  intro i s t h
  cases i with
  | rxByte b =>
    obtain rfl | rfl | ⟨-, rfl⟩ | ⟨n, k, -, rfl⟩ | ⟨hrx, hfull, rfl⟩ := exec_rxByte_inv h
    · exact .inl (fieldsKept_refl _)
    · exact .inl (fieldsKept_refl _)
    · exact .inl (fieldsKept_refl _)
    · exact .inl (fieldsKept_refl _)
    · have hrec : recordsOutcome (.rxByte b) s = true := decide_eq_true ⟨hrx, hfull⟩
      exact (complete_fields _).imp_right (And.intro hrec)
  | _ =>
    obtain rfl := Host.Outcome.next.inj h
    exact .inl (fieldsKept_refl s)

/-! ### The reset input (R47, R200, R201) -/

/-- The reset input writes CONFIG and STATUS, and with them the two words the host reads there. -/
theorem readPort_assertReset_flags (s : State) :
    readPort (assertReset s) 0x001#10 = 0x00000001#32 ∧ readPort (assertReset s) 0x002#10 = 0x00000000#32 := by
  have hconfig : zext16 (configWord State.reset.config) = 0x00000001#32 := by decide
  have hstatus : zext16 (statusWord State.reset.status) = 0x00000000#32 := by decide
  exact ⟨hconfig, hstatus⟩

@[simp] theorem reset_rxBuf_get (k : Fin 22) : State.reset.rxBuf[k] = 0x00#8 := by
  simp [State.reset]

/-- Settles O10: the reset input loads `State.reset` but for tx_out, the parameter and the port. -/
theorem resetInputSetsResetValues : Obligations.ResetInputSetsResetValues := by
  intro s rest hport
  obtain ⟨hconfig, hstatus⟩ := readPort_assertReset_flags { s with port := rest }
  exact ⟨_, step_of_port_reset hport, rfl, hconfig, hstatus, rfl, rfl, rfl, rfl, rfl, rfl, rfl, rfl, rfl, rfl, rfl, rfl,
    rfl, rfl, rfl, rfl, rfl, rfl, rfl, reset_rxBuf_get, rfl, rfl, rfl⟩

end Sys2Proof.Machine

namespace Sys2Proof.Machine

/-! ### 20_memory.md: emitted frames stand one after the other (R65) -/

@[simp] theorem execAll_nil (s : State) : execAll [] s = .next s := rfl

/-- A list whose first command completes goes on from the state that command leaves (R67 20_memory.md). -/
theorem execAll_cons_of_exec {i : Instr} {s t : State} (h : exec i s = .next t) (is : List Instr) :
    execAll (i :: is) s = execAll is t := by
  simp only [execAll, h]

/-- A TX command seals one header and emits that frame, and nothing else (R122, R129 41_tx_encoder.md). -/
theorem exec_of_isTx {i : Instr} (hi : isTx i = true) (s : State) :
    ∃ hdr, exec i s = .next (emitSealed hdr s) ∧ txFrame i s = sealed hdr := by
  cases i with
  | txControl => exact ⟨_, exec_txControl s, rfl⟩
  | txHome => exact ⟨_, exec_txHome s, rfl⟩
  | txAttreq => exact ⟨_, exec_txAttreq s, rfl⟩
  | _ => nomatch hi

/-- The frame of a command depends on the two angles and the parameter alone (R129 41_tx_encoder.md). -/
theorem txFrame_congr {s t : State} (hyaw : t.yawOut = s.yawOut) (hpitch : t.pitchOut = s.pitchOut)
    (hparams : t.params = s.params) (i : Instr) : txFrame i t = txFrame i s := by
  cases i <;> simp only [txFrame, hyaw, hpitch, hparams]

/-- Emitting a frame writes nothing that a later frame depends on. -/
@[simp] theorem txFrame_emitSealed (i : Instr) (hdr : List Byte) (s : State) :
    txFrame i (emitSealed hdr s) = txFrame i s :=
  txFrame_congr rfl rfl rfl i

/-- Settles O30, by induction on the list: each command appends its frame (`exec_of_isTx`) and leaves the frames of the
commands after it as they were (`txFrame_emitSealed`). -/
theorem framesAreBackToBack : Obligations.FramesAreBackToBack := by
  intro is
  induction is with
  | nil => exact fun s _ => ⟨s, execAll_nil s, (List.append_nil _).symm⟩
  | cons i is ih =>
    intro s htx
    obtain ⟨hi, his⟩ := List.forall_mem_cons.mp htx
    obtain ⟨hdr, hexec, hframe⟩ := exec_of_isTx hi s
    obtain ⟨t, hrun, hout⟩ := ih (emitSealed hdr s) his
    refine ⟨t, (execAll_cons_of_exec hexec is).trans hrun, ?_⟩
    simp [hout, hframe]

/-! ### 20_memory.md: the read port at every address (R52 to R56) -/

/-- RX_COUNT reads as its number (R36 10_state.md). -/
theorem readPort_rxCount_toNat (s : State) : (readPort s 0x003#10).toNat = s.rxCount.val :=
  Nat.mod_eq_of_lt (show s.rxCount.val < 2 ^ 32 by omega)

/-- The addresses from 0x016 on are looked up in the windows. -/
theorem readPort_ofNat_eq_window (s : State) {n : Nat} (hlo : 0x016 ≤ n) (hhi : n < 0x400) :
    readPort s (BitVec.ofNat 10 n) = readWindow s n := by
  have hn : (BitVec.ofNat 10 n).toNat = n := Nat.mod_eq_of_lt hhi
  rw [readPort_eq_window s _ (by omega), hn]

/-- RX_BUF[k] stands at 0x020 + k (R56). -/
theorem readPort_rxBuf (s : State) (k : Fin 22) :
    readPort s (BitVec.ofNat 10 (0x020 + k.val)) = zext8 s.rxBuf[k] := by
  rw [readPort_ofNat_eq_window s (by omega) (by omega), readWindow_rxBuf]

/-- CRC_TABLE[i] stands at 0x100 + i (R55). -/
theorem readPort_table (s : State) (i : Byte) :
    readPort s (BitVec.ofNat 10 (0x100 + i.toNat)) = zext16 (crcEntry i) := by
  have hi := i.isLt
  rw [readPort_ofNat_eq_window s (by omega) (by omega), readWindow_table]

/-- A reserved address is in no window, so it reads 0 (R53). -/
theorem readPort_reserved (s : State) (a : PortAddr)
    (h : a.toNat = 0x007 ∨ a.toNat = 0x00F ∨ (0x016 ≤ a.toNat ∧ a.toNat ≤ 0x01F) ∨
      (0x036 ≤ a.toNat ∧ a.toNat ≤ 0x0FF) ∨ 0x200 ≤ a.toNat) :
    readPort s a = 0x00000000#32 := by
  rw [readPort_eq_window s a (by omega), readWindow_reserved s _ (by omega)]

/-- Settles O55: a named register is its own line of the map; RX_COUNT, the two windows and the reserved addresses are
the lemmas above. -/
theorem readPortMap : Obligations.ReadPortMap := fun s =>
  ⟨rfl, rfl, rfl, readPort_rxCount_toNat s, rfl, rfl, rfl, rfl, rfl, rfl, rfl, rfl, rfl, rfl, rfl, rfl, rfl, rfl, rfl,
    rfl, readPort_rxBuf s, readPort_table s, readPort_reserved s⟩

/-! ### 20_memory.md: wire fields are little-endian (R58, R59) -/

/-- Taking apart a value built from two bytes gives those bytes back in wire order (R58). -/
@[simp] theorem bytesLe16_le16 (lo hi : Byte) : bytesLe16 (le16 lo hi) = [lo, hi] := by
  simp only [bytesLe16, extract_low_le16, extract_high_le16]

/-- Settles O22: both directions hold for every two bytes, and the STX is one value (R59). -/
theorem wireIsLittleEndian : Obligations.WireIsLittleEndian :=
  ⟨fun lo hi => ⟨le16_eq_append lo hi, bytesLe16_le16 lo hi⟩, by decide⟩

end Sys2Proof.Machine

namespace Sys2Proof

open Machine

/-! ### 30_encoding.md: what each operand format accepts (R71, R73) -/

/-- A byte operand is the 16-bit operand with high byte 0 (R73). -/
theorem setWidth_eq_le16_zero (b : Byte) : b.setWidth 16 = le16 b 0#8 := by
  simp [le16]

theorem setWidth_low_of_high_eq_zero {imm : Half} (h : imm.extractLsb' 8 8 = 0#8) :
    (imm.extractLsb' 0 8).setWidth 16 = imm := by
  rw [setWidth_eq_le16_zero, ← h, le16_bytes]

@[simp] theorem formatB_setWidth (i : Byte → Instr) (b : Byte) : formatB i (b.setWidth 16) = i b := by
  simp [formatB, setWidth_eq_le16_zero, extract_low_le16, extract_high_le16]

/-- The operand check of `Instr.wellFormed` is the one of format M (R71). -/
theorem formatM_of_wellFormed {forbidden m : Half} (h : (m &&& forbidden == 0#16) = true) (i : Half → Instr) :
    formatM forbidden i m = i m :=
  if_pos (eq_of_beq h)

/-- Settles O2: a word is the op and the operand (`decode_encode_eq`), and each command's format accepts its
own operand. -/
theorem decodeOfEncodeIsSame : Obligations.DecodeOfEncodeIsSame := by
  intro i hwf
  rw [decode_encode_eq]
  cases i with
  | crcByte b => exact formatB_setWidth .crcByte b
  | rxByte b => exact formatB_setWidth .rxByte b
  | cfgWrite m => exact formatM_of_wellFormed hwf .cfgWrite
  | statusClear m => exact formatM_of_wellFormed hwf .statusClear
  | _ => rfl

/-! ### 30_encoding.md: what a word that is not illegal says about its command (R75, R81) -/

/-- The word of `i` is made of op and imm (R81), and `i` is well formed. -/
abbrev Instr.IsCoded (i : Instr) (op : Byte) (imm : Half) : Prop :=
  i.op? = some op ∧ i.operand16 = imm ∧ i.wellFormed = true

theorem formatN_isCoded {i : Instr} {op : Byte} {imm : Half} (hi : i.IsCoded op 0#16)
    (h : formatN i imm ≠ .illegal) : (formatN i imm).IsCoded op imm := by
  have himm : imm = 0#16 := by_contra fun hne => h (if_neg hne)
  rwa [formatN, if_pos himm, himm]

theorem formatB_isCoded {i : Byte → Instr} {op : Byte} {imm : Half} (hi : ∀ b, (i b).IsCoded op (b.setWidth 16))
    (h : formatB i imm ≠ .illegal) : (formatB i imm).IsCoded op imm := by
  have himm : imm.extractLsb' 8 8 = 0#8 := by_contra fun hne => h (if_neg hne)
  have hb := hi (imm.extractLsb' 0 8)
  rw [setWidth_low_of_high_eq_zero himm] at hb
  rwa [formatB, if_pos himm]

theorem formatM_isCoded {forbidden : Half} {i : Half → Instr} {op : Byte} {imm : Half}
    (hi : ∀ m, m &&& forbidden = 0#16 → (i m).IsCoded op m) (h : formatM forbidden i imm ≠ .illegal) :
    (formatM forbidden i imm).IsCoded op imm := by
  have himm : imm &&& forbidden = 0#16 := by_contra fun hne => h (if_neg hne)
  rw [formatM, if_pos himm]
  exact hi imm himm

/-- The op and the operand of a command that is not ILLEGAL are the ones it was decoded from. -/
theorem decodeOp_isCoded {op : Byte} {imm : Half} :
    decodeOp op imm ≠ .illegal → (decodeOp op imm).IsCoded op imm := by
  unfold decodeOp
  split
  -- In the order of the arms: CRC_BYTE and RX_BYTE; SET_YAW and SET_PITCH; CFG_WRITE and STATUS_CLEAR; the unassigned
  -- ops; what is left has format N.
  case h_3 | h_10 => exact formatB_isCoded fun _ => ⟨rfl, rfl, rfl⟩
  case h_4 | h_5 => exact fun _ => ⟨rfl, rfl, rfl⟩
  case h_12 | h_13 => exact formatM_isCoded fun _ hm => ⟨rfl, rfl, beq_of_eq hm⟩
  case h_14 => exact fun h => absurd rfl h
  all_goals exact formatN_isCoded ⟨rfl, rfl, rfl⟩

theorem decode_of_rsvField_ne {w : Word} (h : rsvField w ≠ 0#8) : decode w = .illegal := if_neg h

/-- Settles O5: it is the first test of the decoder. -/
theorem reservedFieldIsIllegal : Obligations.ReservedFieldIsIllegal :=
  fun _ => decode_of_rsvField_ne

theorem decode_eq_illegal_iff (w : Word) :
    decode w = .illegal ↔ rsvField w ≠ 0#8 ∨ decodeOp (opField w) (immField w) = .illegal := by
  by_cases h : rsvField w = 0#8 <;> simp [decode, h]

/-- A word that is not illegal has reserved field 0, and codes the command it decodes to. -/
theorem decode_isCoded {w : Word} (h : decode w ≠ .illegal) :
    rsvField w = 0#8 ∧ (decode w).IsCoded (opField w) (immField w) := by
  have hrsv : rsvField w = 0#8 := by_contra fun hne => h (decode_of_rsvField_ne hne)
  rw [decode, if_pos hrsv] at h ⊢
  exact ⟨hrsv, decodeOp_isCoded h⟩

/-- Settles O3: the decoded command is coded by the word's own op and operand (`decode_isCoded`), and the reserved
field is 0, so these are all of the word. -/
theorem encodeOfDecodeIsSame : Obligations.EncodeOfDecodeIsSame := by
  intro w h
  obtain ⟨hrsv, hop, himm, hwf⟩ := decode_isCoded h
  refine ⟨hwf, ?_⟩
  rw [encode, hop, himm, Option.getD_some, ← word_eq_assembled w hrsv]

/-! ### 30_encoding.md: the illegal words (R76) -/

theorem formatN_eq_illegal_iff {i : Instr} (hi : i ≠ .illegal) (imm : Half) :
    formatN i imm = .illegal ↔ imm ≠ 0#16 := by
  by_cases h : imm = 0#16 <;> simp [formatN, h, hi]

theorem formatB_eq_illegal_iff {i : Byte → Instr} (hi : ∀ b, i b ≠ .illegal) (imm : Half) :
    formatB i imm = .illegal ↔ imm.extractLsb' 8 8 ≠ 0#8 := by
  by_cases h : imm.extractLsb' 8 8 = 0#8 <;> simp [formatB, h, hi]

theorem formatM_eq_illegal_iff {i : Half → Instr} (hi : ∀ m, i m ≠ .illegal) (forbidden imm : Half) :
    formatM forbidden i imm = .illegal ↔ imm &&& forbidden ≠ 0#16 := by
  by_cases h : imm &&& forbidden = 0#16 <;> simp [formatM, h, hi]

/-- The grounds of R76 on op and imm: the op is unassigned, or imm breaks the format of its op. -/
theorem decodeOp_eq_illegal_iff (op : Byte) (imm : Half) :
    decodeOp op imm = .illegal ↔
      (op ∉ [0x00#8, 0x01#8, 0x02#8, 0x10#8, 0x11#8, 0x20#8, 0x21#8, 0x22#8, 0x30#8, 0x31#8, 0x32#8, 0x40#8, 0x41#8] ∨
       (op ∈ [0x00#8, 0x01#8, 0x20#8, 0x21#8, 0x22#8, 0x30#8, 0x32#8] ∧ imm ≠ 0#16) ∨
       (op ∈ [0x02#8, 0x31#8] ∧ imm.extractLsb' 8 8 ≠ 0#8) ∨
       (op = 0x40#8 ∧ imm &&& cfgWriteForbidden ≠ 0#16) ∨
       (op = 0x41#8 ∧ imm &&& statusClearForbidden ≠ 0#16)) := by
  unfold decodeOp
  split
  -- The arm of the unassigned ops, each of whose hypotheses excludes one op of the map.
  case h_14 => simp_all
  all_goals simp [formatN_eq_illegal_iff, formatB_eq_illegal_iff, formatM_eq_illegal_iff, formatH]

theorem extractLsb'_immField (w : Word) : (immField w).extractLsb' 8 8 = w.extractLsb' 8 8 := by
  simp [immField, BitVec.extractLsb'_extractLsb'_of_le]

/-- Settles O4: the grounds are the reserved field or those of `decodeOp_eq_illegal_iff`, and the step is the execution
of ILLEGAL. -/
theorem illegalWordsExactly : Obligations.IllegalWordsExactly := by
  refine ⟨fun w => ?_, fun s w rest hport hw => ?_⟩
  · rw [decode_eq_illegal_iff, decodeOp_eq_illegal_iff, extractLsb'_immField]
    exact Iff.rfl
  · rw [step_of_port_command hport, hw, exec_illegal]
    rfl

/-! ### 30_encoding.md: the rows of the opcode table (R74, R75) -/

theorem bitVec_append_inj_iff {m n : Nat} {a c : BitVec m} {b d : BitVec n} : a ++ b = c ++ d ↔ a = c ∧ b = d := by
  refine ⟨fun h => ⟨?_, ?_⟩, fun ⟨hac, hbd⟩ => hac ▸ hbd ▸ rfl⟩
  · simpa only [BitVec.extractLsb'_append_eq_left] using congrArg (BitVec.extractLsb' n m) h
  · simpa only [BitVec.extractLsb'_append_eq_right] using congrArg (BitVec.extractLsb' 0 n) h

theorem extractLsb'_append_extractLsb'_self {m n : Nat} (x : BitVec (m + n)) :
    x.extractLsb' n m ++ x.extractLsb' 0 n = x :=
  (BitVec.extractLsb'_append_extractLsb'_eq_extractLsb' (Nat.zero_add n).symm).trans BitVec.extractLsb'_eq_self

/-- The layout of a command word (R70). -/
theorem fields_append (w : Word) : (opField w ++ rsvField w : Half) ++ immField w = w := by
  have hhigh : (opField w ++ rsvField w : Half) = w.extractLsb' 16 16 :=
    BitVec.extractLsb'_append_extractLsb'_eq_extractLsb' rfl
  rw [hhigh]
  exact extractLsb'_append_extractLsb'_self (m := 16) (n := 16) w

/-- The operand bits a row of the opcode table requires to be 0. -/
def OpcodeRow.forbidden (r : OpcodeRow) : Half := r.mask.extractLsb' 0 16

/-- Every row fixes op, requires the reserved field to be 0, and its forbidden operand bits to be 0. -/
theorem opcodeRows_shape : ∀ r ∈ opcodeRows,
    r.mask = 0xFFFF#16 ++ r.forbidden ∧ r.pattern = (r.op ++ 0x00#8 : Half) ++ 0x0000#16 := by
  simp [opcodeRows, OpcodeRow.forbidden]

theorem opcodeRows_op_nodup : (opcodeRows.map OpcodeRow.op).Nodup := by decide

/-- Rows with one op are one row. -/
theorem opcodeRow_ext {r q : OpcodeRow} (hr : r ∈ opcodeRows) (hq : q ∈ opcodeRows) (h : r.op = q.op) : r = q :=
  List.inj_on_of_nodup_map opcodeRows_op_nodup hr hq h

theorem half_and_ones (imm : Half) : imm &&& 0xFFFF#16 = imm := BitVec.and_allOnes

/-- A row's test, field by field. -/
theorem OpcodeRow.covers_iff {r : OpcodeRow} (hr : r ∈ opcodeRows) (w : Word) :
    r.covers w ↔ opField w = r.op ∧ rsvField w = 0#8 ∧ immField w &&& r.forbidden = 0#16 := by
  obtain ⟨hmask, hpattern⟩ := opcodeRows_shape r hr
  have hand : w &&& r.mask = (opField w ++ rsvField w : Half) ++ (immField w &&& r.forbidden) := by
    calc w &&& r.mask
        = ((opField w ++ rsvField w : Half) ++ immField w) &&& (0xFFFF#16 ++ r.forbidden) := by
          rw [fields_append, hmask]
      _ = _ := by rw [BitVec.and_append, half_and_ones]
  rw [OpcodeRow.covers, hand, hpattern, bitVec_append_inj_iff, bitVec_append_inj_iff, and_assoc]

/-- Format B's test as a mask: the form the table gives it. -/
theorem high_eq_zero_iff (imm : Half) : imm.extractLsb' 8 8 = 0#8 ↔ imm &&& 0xFF00#16 = 0#16 := by
  have hand : imm &&& 0xFF00#16 = imm.extractLsb' 8 8 ++ 0#8 := by
    calc imm &&& 0xFF00#16
        = (imm.extractLsb' 8 8 ++ imm.extractLsb' 0 8) &&& (BitVec.allOnes 8 ++ 0#8) := by
          rw [extractLsb'_append_extractLsb'_self (m := 8) (n := 8) imm]; rfl
      _ = imm.extractLsb' 8 8 ++ 0#8 := by rw [BitVec.and_append, BitVec.and_allOnes, BitVec.and_zero]
  rw [hand, show (0#16 : Half) = 0#8 ++ 0#8 from rfl, bitVec_append_inj_iff, and_iff_left rfl]

/-- Within the op of a row, the decoder's operand check is the row's. -/
theorem decodeOp_row (imm : Half) :
    ∀ r ∈ opcodeRows, decodeOp r.op imm = .illegal ↔ imm &&& r.forbidden ≠ 0#16 := by
  simp [opcodeRows, OpcodeRow.forbidden, decodeOp_eq_illegal_iff, high_eq_zero_iff, half_and_ones, cfgWriteForbidden,
    statusClearForbidden]

/-- An op no row has is unassigned. -/
theorem op_mem_of_decodeOp_ne {op : Byte} {imm : Half} (h : decodeOp op imm ≠ .illegal) :
    op ∈ opcodeRows.map OpcodeRow.op :=
  by_contra fun hop => h ((decodeOp_eq_illegal_iff op imm).mpr (.inl hop))

/-- The decoder takes exactly the words the table has a row for (R75). -/
theorem decode_ne_illegal_iff_covers (w : Word) : decode w ≠ .illegal ↔ ∃ r ∈ opcodeRows, r.covers w := by
  constructor
  · intro h
    rw [Ne, decode_eq_illegal_iff, not_or, not_not] at h
    obtain ⟨hrsv, hop⟩ := h
    obtain ⟨r, hr, hrop⟩ := List.mem_map.mp (op_mem_of_decodeOp_ne hop)
    rw [← hrop, decodeOp_row _ r hr, not_not] at hop
    exact ⟨r, hr, (r.covers_iff hr w).mpr ⟨hrop.symm, hrsv, hop⟩⟩
  · rintro ⟨r, hr, hcov⟩
    obtain ⟨hop, hrsv, himm⟩ := (r.covers_iff hr w).mp hcov
    rw [Ne, decode_eq_illegal_iff, hop, decodeOp_row _ r hr]
    simp [hrsv, himm]

/-- A word has one op, so at most one row covers it. -/
theorem covers_unique {w : Word} {r q : OpcodeRow} (hr : r ∈ opcodeRows) (hq : q ∈ opcodeRows) (hrw : r.covers w)
    (hqw : q.covers w) : r = q := by
  obtain ⟨hrop, -⟩ := (r.covers_iff hr w).mp hrw
  obtain ⟨hqop, -⟩ := (q.covers_iff hq w).mp hqw
  exact opcodeRow_ext hr hq (hrop.symm.trans hqop)

/-- A covered word decodes to the command of the row that covers it. -/
theorem op?_decode_of_covers {w : Word} {r : OpcodeRow} (hr : r ∈ opcodeRows) (h : r.covers w) :
    (decode w).op? = some r.op := by
  obtain ⟨-, hop, -, -⟩ := decode_isCoded ((decode_ne_illegal_iff_covers w).mpr ⟨r, hr, h⟩)
  obtain ⟨hrop, -⟩ := (r.covers_iff hr w).mp h
  rw [hop, hrop]

/-- Settles O6: a word that is not illegal is covered by a row (`decode_ne_illegal_iff_covers`), which gives it its op,
and rows with one op are one row. -/
theorem opcodeTableAgrees : Obligations.OpcodeTableAgrees := by
  refine ⟨fun w r hr => ⟨fun hop => ?_, op?_decode_of_covers hr⟩, fun w r q => covers_unique, fun w hnone => ?_⟩
  · have hlegal : decode w ≠ .illegal := fun h => by simp [h, Instr.op?] at hop
    obtain ⟨q, hq, hqw⟩ := (decode_ne_illegal_iff_covers w).mp hlegal
    have hqr : q.op = r.op := Option.some.inj ((op?_decode_of_covers hq hqw).symm.trans hop)
    exact opcodeRow_ext hq hr hqr ▸ hqw
  · by_contra h
    obtain ⟨r, hr, hrw⟩ := (decode_ne_illegal_iff_covers w).mp h
    exact hnone r hr hrw

end Sys2Proof

namespace Sys2Proof.Machine

/-! ### 30_encoding.md: the assembler (R79) -/

/-- A command that some word stands for and that is not ILLEGAL. -/
abbrev Legal (i : Instr) : Prop := i ≠ .illegal ∧ i.wellFormed = true

/-- Every element of an `Option` map over a list comes from an element of it. -/
theorem exists_of_mem_mapM {α β : Type} {f : α → Option β} {l : List α} {bs : List β} (h : l.mapM f = some bs) :
    ∀ b ∈ bs, ∃ a, f a = some b := by
  induction l generalizing bs with
  | nil =>
    cases h
    exact nofun
  | cons a l ih =>
    simp only [List.mapM_cons, Option.bind_eq_bind, Option.bind_eq_some_iff] at h
    obtain ⟨b, hb, bs', hbs, ⟨⟩⟩ := h
    exact List.forall_mem_cons.mpr ⟨⟨a, hb⟩, ih hbs⟩

/-- Fields that avoid the forbidden bits are ORed to a mask that avoids them. -/
theorem foldl_or_and_eq_zero {forbidden : Half} {bits : List Half} (h : ∀ b ∈ bits, b &&& forbidden = 0#16) :
    bits.foldl (· ||| ·) 0#16 &&& forbidden = 0#16 := by
  refine List.foldlRecOn bits (· ||| ·) (motive := fun acc => acc &&& forbidden = 0#16) BitVec.zero_and ?_
  intro acc hacc b hb
  rw [BitVec.and_or_distrib_right, hacc, h b hb, BitVec.or_self]

/-- An M-format operand the assembler takes has no forbidden bit (R79). -/
theorem maskOperand_and_forbidden {forbidden : Half} {bit : MaskName → Option Half}
    (hbit : ∀ n b, bit n = some b → b &&& forbidden = 0#16) {o : Operand} {m : Half}
    (h : maskOperand forbidden bit o = some m) : m &&& forbidden = 0#16 := by
  cases o with
  | dec n =>
    obtain ⟨-, ⟨⟩⟩ := Option.ite_none_right_eq_some.mp h
    exact BitVec.zero_and
  | hex n =>
    obtain ⟨⟨-, hm⟩, ⟨⟩⟩ := Option.ite_none_right_eq_some.mp h
    exact hm
  | names l =>
    obtain ⟨bits, hbits, rfl⟩ := Option.map_eq_some_iff.mp h
    refine foldl_or_and_eq_zero fun b hb => ?_
    obtain ⟨n, hn⟩ := exists_of_mem_mapM hbits b hb
    exact hbit n b hn

theorem cfgWriteBit_allowed (n : MaskName) (b : Half) (h : cfgWriteBit n = some b) : b &&& cfgWriteForbidden = 0#16 := by
  cases n <;> cases h <;> rfl

theorem statusClearBit_allowed (n : MaskName) (b : Half) (h : statusClearBit n = some b) :
    b &&& statusClearForbidden = 0#16 := by
  cases n <;> cases h <;> rfl

/-- A line whose operand is read before its commands are built is legal if they are, for every value the operand can
have. -/
theorem legal_of_map {α : Type} {o : Option α} {build : α → List Instr} {is : List Instr} (h : o.map build = some is)
    (hbuild : ∀ a, o = some a → ∀ i ∈ build a, Legal i) : ∀ i ∈ is, Legal i := by
  obtain ⟨a, ha, rfl⟩ := Option.map_eq_some_iff.mp h
  exact hbuild a ha

/-- The pseudo-instructions expand to legal commands whatever their operands (R80). -/
theorem legal_of_mem_expandPseudo (p : Pseudo) : ∀ i ∈ expandPseudo p, Legal i := by
  cases p with
  | ackAll | cfgReference | cfgStrict | requestAttitude => decide
  | crc _ | rxBytes _ | sendControl _ _ => simp [expandPseudo, Legal, Instr.wellFormed]

/-- Every command of a line is legal; only a mask operand needs a reason. -/
theorem legal_of_mem_assembleParts {m : Mnemonic} {ops : List Operand} {is : List Instr}
    (h : assembleParts m ops = some is) : ∀ i ∈ is, Legal i := by
  unfold assembleParts at h
  split at h
  -- The commands with a byte or half operand, CFG_WRITE, STATUS_CLEAR, the pseudo-instructions (CRC and RX_BYTES,
  -- SEND_CONTROL, those without operand), the assembly errors, and the commands without operand.
  case h_3 | h_4 | h_5 | h_10 => exact legal_of_map h fun _ _ => by simp [Legal, Instr.wellFormed]
  case h_12 =>
    refine legal_of_map h fun m hm => ?_
    simp [Legal, Instr.wellFormed, maskOperand_and_forbidden cfgWriteBit_allowed hm]
  case h_13 =>
    refine legal_of_map h fun m hm => ?_
    simp [Legal, Instr.wellFormed, maskOperand_and_forbidden statusClearBit_allowed hm]
  case h_14 | h_17 => exact legal_of_map h fun _ _ => legal_of_mem_expandPseudo _
  case h_15 =>
    split at h <;> cases h
    exact legal_of_mem_expandPseudo _
  case h_16 | h_18 | h_19 | h_20 =>
    cases h
    exact legal_of_mem_expandPseudo _
  case h_21 => cases h
  all_goals
    cases h
    decide

theorem assembleParts_of_assemble {line : String} {is : List Instr} (h : assemble line = some is) :
    ∃ m ops, assembleParts m ops = some is := by
  simp only [assemble] at h
  split at h
  · exact ⟨_, _, h⟩
  · cases h

/-- Settles O7: what a line assembles to is legal (`legal_of_mem_assembleParts`), and a well-formed command is read back
(O2). -/
theorem assemblerWritesLegalWords : Obligations.AssemblerWritesLegalWords := by
  intro line is i h hi
  obtain ⟨m, ops, hparts⟩ := assembleParts_of_assemble h
  obtain ⟨hne, hwf⟩ := legal_of_mem_assembleParts hparts i hi
  exact ⟨hne, hwf, decodeOfEncodeIsSame i hwf⟩

/-! ### 30_encoding.md: the pseudo-instruction CRC (R80) -/

/-- One CRC_BYTE per byte goes on with the fold of `update` from the accumulator it finds (R108 40_crc.md). -/
theorem execAll_crcByte (bs : List Byte) (s : State) :
    execAll (bs.map .crcByte) s = .next { s with crcAcc := bs.foldl crcUpdate s.crcAcc } := by
  induction bs generalizing s with
  | nil => rfl
  | cons b bs ih => exact (execAll_cons_of_exec (exec_crcByte s b) _).trans (ih _)

/-- Settles O20: after CRC_INIT the fold of `execAll_crcByte` starts from 0x0000, as `crc16` does. -/
theorem crcSequenceIsChecksum : Obligations.CrcSequenceIsChecksum := fun bs s =>
  (execAll_cons_of_exec (exec_crcInit s) _).trans (execAll_crcByte bs _)

end Sys2Proof.Machine

namespace Sys2Proof

open Machine

/-! ### 40_crc.md: the words of op 0x01 and op 0x02 (R107, R108) -/

/-- Within an op of format N, one word is the command and every other word is ILLEGAL (R71, R72 30_encoding.md). -/
theorem decode_of_formatN {op : Byte} {i : Instr} (hop : ∀ imm, decodeOp op imm = formatN i imm) {w : Word}
    (hw : opField w = op) : decode w = if w = (op ++ 0#8 : Half) ++ 0#16 then i else .illegal := by
  have hiff : w = (op ++ 0#8 : Half) ++ 0#16 ↔ rsvField w = 0#8 ∧ immField w = 0#16 := by
    conv_lhs => rw [← fields_append w, bitVec_append_inj_iff, bitVec_append_inj_iff, hw]
    simp
  simp only [decode, hw, hop, formatN, hiff, ite_and]

/-- Within an op of format B, the words with bits 23:8 zero are the command of their low byte and the others are ILLEGAL
(R71, R72 30_encoding.md). -/
theorem decode_of_formatB {op : Byte} {i : Byte → Instr} (hop : ∀ imm, decodeOp op imm = formatB i imm) {w : Word}
    (hw : opField w = op) :
    decode w = if w.extractLsb' 8 16 = 0#16 then i (w.extractLsb' 0 8) else .illegal := by
  have hmid : rsvField w ++ w.extractLsb' 8 8 = w.extractLsb' 8 16 :=
    BitVec.extractLsb'_append_extractLsb'_eq_extractLsb' rfl
  have hlow : (immField w).extractLsb' 0 8 = w.extractLsb' 0 8 := by
    simp [immField, BitVec.extractLsb'_extractLsb'_of_le]
  have hiff : w.extractLsb' 8 16 = 0#16 ↔ rsvField w = 0#8 ∧ w.extractLsb' 8 8 = 0#8 := by
    rw [← hmid, show (0#16 : Half) = 0#8 ++ 0#8 from rfl, bitVec_append_inj_iff]
  simp only [decode, hw, hop, formatB, extractLsb'_immField, hlow, hiff, ite_and]

end Sys2Proof

namespace Sys2Proof.Machine

/-! ### 40_crc.md: the checksum as a fold (R103) -/

theorem crc16_append_singleton (xs : List Byte) (b : Byte) : crc16 (xs ++ [b]) = crcUpdate (crc16 xs) b :=
  crc16_append xs [b]

/-- Settles O16: `crc16` is the left fold by definition, and a fold over an appended list goes on from where it was. -/
theorem checksumIsFold : Obligations.ChecksumIsFold := ⟨crc16_nil, crc16_append_singleton⟩

/-! ### 40_crc.md: a 16-bit value as its two bytes, for the shifts of the update (R102, R104) -/

theorem le16_xor_le16 (a b c d : Byte) : le16 a b ^^^ le16 c d = le16 (a ^^^ c) (b ^^^ d) := by
  simp only [le16_eq_append]
  exact BitVec.xor_append

/-- A byte put at the top of the checksum, where R104 XORs it in. -/
theorem setWidth_shiftLeft_eq_le16 (b : Byte) : b.setWidth 16 <<< 8 = le16 0#8 b := by
  simp [le16]

/-- Shifting by 8 drops the high byte and moves the low one up. -/
theorem le16_shiftLeft (lo hi : Byte) : le16 lo hi <<< 8 = le16 0#8 lo := by
  calc le16 lo hi <<< 8
      = (le16 lo hi).extractLsb' 0 8 ++ 0#8 := BitVec.shiftLeft_eq_concat_of_lt (by decide)
    _ = le16 0#8 lo := by rw [extract_low_le16, le16_eq_append]

/-! ### 40_crc.md: the bit-serial steps and the table (R101, R104) -/

theorem crcEntry_eq_tableEntry : ∀ i : Byte, crcEntry i = tableEntry i := by decide

/-- Settles O14: the table is 256 literal values, so each is compared with the bits run for its index. -/
theorem crcTableIsBitSerial : Obligations.CrcTableIsBitSerial :=
  ⟨crcEntry_eq_tableEntry, by decide⟩

/-- R104's two cases as one XOR: the polynomial goes in exactly when the bit shifted out is 1. -/
theorem crcShift_eq_xor (c : Half) :
    crcShift c = (c <<< 1) ^^^ (if c.getLsbD 15 then 0x1021#16 else 0x0000#16) := by
  unfold crcShift
  split
  · rfl
  · exact BitVec.xor_zero.symm

/-- A bit-serial step is linear, for the bit shifted out of a XOR is the XOR of the bits shifted out. -/
theorem crcShift_xor (a b : Half) : crcShift (a ^^^ b) = crcShift a ^^^ crcShift b := by
  have hpoly : (if (a ^^^ b).getLsbD 15 then 0x1021#16 else 0x0000#16) =
      (if a.getLsbD 15 then 0x1021#16 else 0x0000#16) ^^^ (if b.getLsbD 15 then 0x1021#16 else 0x0000#16) := by
    rw [BitVec.getLsbD_xor]
    cases a.getLsbD 15 <;> cases b.getLsbD 15 <;> rfl
  rw [crcShift_eq_xor, crcShift_eq_xor a, crcShift_eq_xor b, hpoly, BitVec.shiftLeft_xor_distrib]
  ac_rfl

theorem crcShift8_xor (a b : Half) : crcShift8 (a ^^^ b) = crcShift8 a ^^^ crcShift8 b := by
  simp only [crcShift8, crcShift_xor]

/-- A byte that has not reached bit 15 is only shifted: no step so far XORs the polynomial in. -/
theorem crcShift_setWidth_shiftLeft (b : Byte) {k : Nat} (hk : k < 8) :
    crcShift (b.setWidth 16 <<< k) = b.setWidth 16 <<< (k + 1) := by
  have hout : b.getLsbD (15 - k) = false := BitVec.getLsbD_of_ge b _ (by omega)
  simp [crcShift, BitVec.shiftLeft_add, hout]

/-- Eight steps bring the low byte to the top unchanged. -/
theorem crcShift8_setWidth (b : Byte) : crcShift8 (b.setWidth 16) = b.setWidth 16 <<< 8 := by
  have h := crcShift_setWidth_shiftLeft b (k := 0) (by decide)
  rw [BitVec.shiftLeft_zero] at h
  simp [crcShift8, h, crcShift_setWidth_shiftLeft b]

/-- By linearity, eight steps on a value are eight steps on its low byte, which only shift it, and eight on its high
byte, which are the table entry (R101). -/
theorem crcShift8_le16 (lo hi : Byte) : crcShift8 (le16 lo hi) = le16 0#8 lo ^^^ tableEntry hi := by
  have hsplit : le16 lo hi = lo.setWidth 16 ^^^ (hi.setWidth 16 <<< 8) := by
    rw [setWidth_eq_le16_zero, setWidth_shiftLeft_eq_le16, le16_xor_le16, BitVec.xor_zero, BitVec.zero_xor]
  rw [hsplit, crcShift8_xor, crcShift8_setWidth, setWidth_shiftLeft_eq_le16, tableEntry]

theorem crcUpdateSerial_le16 (lo hi b : Byte) :
    crcUpdateSerial (le16 lo hi) b = le16 0#8 lo ^^^ tableEntry (b ^^^ hi) := by
  rw [crcUpdateSerial, setWidth_shiftLeft_eq_le16, le16_xor_le16, BitVec.xor_zero, crcShift8_le16, BitVec.xor_comm hi]

/-- The formula of R102, with `crc >> 8` written as the high byte. -/
theorem crcUpdate_eq_extract (crc : Half) (b : Byte) :
    crcUpdate crc b = (crc <<< 8) ^^^ crcEntry (b ^^^ crc.extractLsb' 8 8) :=
  rfl

theorem crcUpdate_le16 (lo hi b : Byte) : crcUpdate (le16 lo hi) b = le16 0#8 lo ^^^ crcEntry (b ^^^ hi) := by
  rw [crcUpdate_eq_extract, le16_shiftLeft, extract_high_le16]

/-- Settles O15: on the two bytes of the checksum both forms shift the low byte up and XOR in the table entry of the
same index (`crcUpdate_le16`, `crcUpdateSerial_le16`). -/
theorem crcUpdateIsBitSerial : Obligations.CrcUpdateIsBitSerial := by
  intro crc b
  rw [← le16_bytes crc, crcUpdate_le16, crcUpdateSerial_le16, crcEntry_eq_tableEntry]

/-! ### 40_crc.md: properties of the checksum (R105) -/

/-- A byte equal to the high byte of the checksum gives index 0, whose entry is 0, so the update only shifts. -/
theorem crcUpdate_le16_high (lo hi : Byte) : crcUpdate (le16 lo hi) hi = le16 0#8 lo := by
  have hzero : crcEntry 0#8 = 0#16 := by decide
  rw [crcUpdate_le16, BitVec.xor_self, hzero, BitVec.xor_zero]

/-- The two bytes of the checksum, most significant first, are shifted out one after the other. -/
theorem crcUpdate_bytes_self (crc : Half) :
    crcUpdate (crcUpdate crc (crc.extractLsb' 8 8)) (crc.extractLsb' 0 8) = 0#16 := by
  have hhigh : crcUpdate crc (crc.extractLsb' 8 8) = le16 0#8 (crc.extractLsb' 0 8) := by
    simpa only [le16_bytes] using crcUpdate_le16_high (crc.extractLsb' 0 8) (crc.extractLsb' 8 8)
  rw [hhigh]
  exact crcUpdate_le16_high 0#8 _

/-- `update(0, 0) = 0` (R105). -/
theorem crc16_zero_cons (xs : List Byte) : crc16 (0x00#8 :: xs) = crc16 xs := by
  have hzero : crcUpdate 0x0000#16 0x00#8 = 0x0000#16 := crcUpdate_le16_high 0#8 0#8
  rw [crc16, List.foldl_cons, hzero, crc16]

/-- Settles O17: the two values show that order matters; a leading zero is `crc16_zero_cons`, and the appended checksum
is two updates more (`crc16_append`, `crcUpdate_bytes_self`). -/
theorem checksumProperties : Obligations.ChecksumProperties := by
  refine ⟨by decide, by decide, crc16_zero_cons, fun xs => ?_⟩
  rw [crc16_append]
  exact crcUpdate_bytes_self _

/-! ### 40_crc.md: the CRC commands (R107, R108) -/

/-- Settles O18: op 0x01 has format N, whose one word is 0x01000000. -/
theorem crcInitClearsAccumulator : Obligations.CrcInitClearsAccumulator :=
  ⟨exec_crcInit, fun _ hw => decode_of_formatN (fun _ => rfl) hw⟩

/-- Settles O19: the formula is `crcUpdate_eq_extract`, op 0x02 has format B, and the sequence is O20. -/
theorem crcByteUpdatesAccumulator : Obligations.CrcByteUpdatesAccumulator :=
  ⟨fun b s => by rw [exec_crcByte, crcUpdate_eq_extract], fun _ hw => decode_of_formatB (fun _ => rfl) hw,
    by decide, by decide, by decide, by decide, crcSequenceIsChecksum⟩

/-! ### 40_crc.md: the accumulator and the other commands (R109) -/

/-- The state with another value in CRC_ACC, everything else as it was. -/
def State.withAcc (s : State) (a : Half) : State := { s with crcAcc := a }

section withAcc

variable (s : State) (a : Half)

@[simp] theorem withAcc_crcAcc : (s.withAcc a).crcAcc = a := rfl
theorem record_withAcc (o : RxResult) : record o (s.withAcc a) = (record o s).withAcc a := rfl

/-! The tests of the decoder's steps do not look at CRC_ACC, and under each test the operations write other registers:
with the update moved into the branches, the two sides are the same by definition. -/

theorem complete_withAcc : complete (s.withAcc a) = (complete s).withAcc a := by
  rw [complete, complete, ← record_withAcc, apply_ite (State.withAcc · a)]
  rfl

theorem searchStep_withAcc (b : Byte) : searchStep b (s.withAcc a) = (searchStep b s).withAcc a := by
  rw [searchStep, searchStep, apply_ite (State.withAcc · a), apply_ite (State.withAcc · a)]
  rfl

theorem have55Step_withAcc (b : Byte) : have55Step b (s.withAcc a) = (have55Step b s).withAcc a := by
  rw [have55Step, have55Step, apply_ite (State.withAcc · a), apply_ite (State.withAcc · a)]
  rfl

theorem collectStep_withAcc (b : Byte) : collectStep b (s.withAcc a) = (collectStep b s).withAcc a := by
  rw [collectStep, collectStep, apply_dite (State.withAcc · a), ← complete_withAcc]
  rfl

end withAcc

/-- RX_BYTE decides and writes without CRC_ACC in each of the three receive states. -/
theorem exec_rxByte_withAcc {b : Byte} {s t : State} (h : exec (.rxByte b) s = .next t) (a : Half) :
    exec (.rxByte b) (s.withAcc a) = .next (t.withAcc a) := by
  rw [exec_rxByte] at h
  obtain ⟨hrx, he⟩ | ⟨hrx, he⟩ | ⟨hrx, he⟩ := execRxByte_cases b s <;>
    obtain rfl := Host.Outcome.next.inj (he.symm.trans h)
  · rw [exec_rxByte_search (s.withAcc a) b hrx, searchStep_withAcc]
  · rw [exec_rxByte_have55 (s.withAcc a) b hrx, have55Step_withAcc]
  · rw [exec_rxByte_collect (s.withAcc a) b hrx, collectStep_withAcc]

/-- A command outside the CRC unit does not read CRC_ACC: with another value there it leaves the same state but for
that value. -/
theorem exec_withAcc {i : Instr} {s t : State} (hi : isCrc i = false) (h : exec i s = .next t) (a : Half) :
    exec i (s.withAcc a) = .next (t.withAcc a) := by
  cases i with
  | crcInit | crcByte b => nomatch hi
  | rxByte b => exact exec_rxByte_withAcc h a
  | _ =>
    obtain rfl := Host.Outcome.next.inj h
    rfl

/-- Nor does it write CRC_ACC: `exec_withAcc` at the value CRC_ACC has already gives the same run, so that value is
still there after it. -/
theorem exec_keeps_crcAcc {i : Instr} {s t : State} (hi : isCrc i = false) (h : exec i s = .next t) :
    t.crcAcc = s.crcAcc := by
  have hsame : t = t.withAcc s.crcAcc := Host.Outcome.next.inj (h.symm.trans (exec_withAcc hi h s.crcAcc))
  rw [hsame, withAcc_crcAcc]

/-- A CRC command writes CRC_ACC alone, and what it writes depends on CRC_ACC alone (R107, R108). -/
theorem exec_of_isCrc {c : Instr} (hc : isCrc c = true) :
    ∃ f : Half → Half, ∀ s : State, exec c s = .next (s.withAcc (f s.crcAcc)) := by
  cases c with
  | crcInit => exact ⟨fun _ => 0#16, exec_crcInit⟩
  | crcByte b => exact ⟨fun a => crcUpdate a b, fun s => exec_crcByte s b⟩
  | _ => nomatch hc

/-- Settles O21: a CRC command reads and writes CRC_ACC alone (`exec_of_isCrc`) and the other command neither reads nor
writes it, so both orders leave the same state. -/
theorem accumulatorIsIndependent : Obligations.AccumulatorIsIndependent := by
  intro i s t hi h
  have hacc : t.crcAcc = s.crcAcc := exec_keeps_crcAcc hi h
  refine ⟨hacc, exec_withAcc hi h, fun c hc => ?_⟩
  obtain ⟨f, hf⟩ := exec_of_isCrc hc
  calc execAll [c, i] s
      = .next (t.withAcc (f s.crcAcc)) := by
        rw [execAll_cons_of_exec (hf s), execAll_cons_of_exec (exec_withAcc hi h _), execAll_nil]
    _ = execAll [i, c] s := by
        rw [execAll_cons_of_exec h, execAll_cons_of_exec (hf t), execAll_nil, hacc]

end Sys2Proof.Machine

namespace Sys2Proof

open Machine

/-! ### 41_tx_encoder.md: the words of op 0x10 and op 0x11 (R123, R124) -/

/-- Within an op of format H, a word with reserved field 0 is the command of its low half, whatever that is (R71, R73
30_encoding.md). -/
theorem decode_of_formatH {op : Byte} {i : Half → Instr} (hop : ∀ imm, decodeOp op imm = formatH i imm) (h : Half) :
    decode ((op ++ 0#8 : Half) ++ h) = i h := by
  obtain ⟨⟨hopField, hrsv⟩, himm⟩ := by
    simpa only [bitVec_append_inj_iff] using fields_append ((op ++ 0#8 : Half) ++ h)
  simp only [decode, hopField, hrsv, himm, hop, formatH, if_true]

end Sys2Proof

namespace Sys2Proof.Machine

/-! ### 41_tx_encoder.md: what a TX command emits (R121, R122, R129) -/

/-- Every builder's header begins with the same eight bytes but for the length and the command id (R120, R121). -/
theorem exec_of_isTx_frameHeader {i : Instr} (hi : isTx i = true) (s : State) :
    ∃ len cmd payload, exec i s = .next (emitSealed (frameHeader len cmd ++ payload) s) := by
  cases i with
  | txControl => exact ⟨0x0004#16, 0x0E#8, bytesLe16 s.yawOut ++ bytesLe16 s.pitchOut, exec_txControl s⟩
  | txHome =>
    rw [exec_txHome]
    cases s.params.homeVariant with
    | table => exact ⟨0x0000#16, 0x01#8, [0x01#8], rfl⟩
    | vec8 => exact ⟨0x0001#16, 0x08#8, [0x01#8], rfl⟩
  | txAttreq => exact ⟨0x0000#16, 0x0D#8, [], exec_txAttreq s⟩
  | _ => nomatch hi

/-- A TX command by its frame (R122, R129): the frame is appended, its checksum kept, and nothing else changes. -/
theorem exec_eq_of_emits {i : Instr} {s : State} {hdr frame : List Byte} {c : Half}
    (hexec : exec i s = .next (emitSealed hdr s)) (hc : crc16 hdr = c) (hframe : hdr ++ bytesLe16 c = frame) :
    exec i s = .next { s with txLastCrc := c, txOut := s.txOut ++ frame } := by
  rw [hexec, emitSealed, sealed, hc, hframe]

/-- Settles O28: the header is the one that every builder begins with (`exec_of_isTx_frameHeader`), and it is sealed. -/
theorem everyFrameIsSealed : Obligations.EveryFrameIsSealed := by
  intro i s hi
  obtain ⟨len, cmd, payload, hexec⟩ := exec_of_isTx_frameHeader hi s
  have hlen : 8 ≤ (frameHeader len cmd ++ payload).length := by
    rw [List.length_append]
    exact Nat.le_add_right 8 _
  exact ⟨_, _, hexec, (List.append_assoc ..).symm, rfl, hlen, rfl, rfl⟩

/-- The seal appends two bytes to every header, so a frame has one header. -/
theorem sealed_injective : Function.Injective sealed := fun _ _ h => List.append_inj_left' h rfl

/-- Settles O32: the two frames are the same (`txFrame_congr`), so their headers and checksums are. -/
theorem encoderIgnoresDecoder : Obligations.EncoderIgnoresDecoder := by
  intro i s s' hi hyaw hpitch hparams
  obtain ⟨hdr, hexec, hframe⟩ := exec_of_isTx hi s
  obtain ⟨hdr', hexec', hframe'⟩ := exec_of_isTx hi s'
  obtain rfl : hdr = hdr' := sealed_injective <|
    calc sealed hdr = txFrame i s := hframe.symm
      _ = txFrame i s' := txFrame_congr hyaw hpitch hparams i
      _ = sealed hdr' := hframe'
  exact ⟨crc16 hdr, sealed hdr, hexec, hexec'⟩

/-! ### 41_tx_encoder.md: the angles on the wire (R131) -/

/-- An i16 read back from its pattern is itself (R11 00_scope.md). -/
theorem s16_u16of {x : Int} (hlo : -32768 ≤ x) (hhi : x ≤ 32767) : s16 (u16of x) = x := by
  rw [s16_eq_toInt]
  exact BitVec.toInt_ofInt_eq_self (by decide) hlo (by omega)

/-- SET_YAW, SET_PITCH, TX_CONTROL emit the control frame of the two operands (R80 30_encoding.md). -/
theorem execAll_sendControl (y p : Half) (s : State) :
    execAll (expandPseudo (.sendControl y p)) s =
      .next (emitSealed (controlHeader y p) { s with yawOut := y, pitchOut := p }) := rfl

/-- Settles O29: the bytes of each angle join to its pattern again (`le16_bytes`), which is read back as the integer
(`s16_u16of`). -/
theorem controlFrameCarriesAngles : Obligations.ControlFrameCarriesAngles := by
  intro y p s hy hy' hp hp'
  have hyaw : s16 (le16 ((u16of y).extractLsb' 0 8) ((u16of y).extractLsb' 8 8)) = y := by
    rw [le16_bytes, s16_u16of hy hy']
  have hpitch : s16 (le16 ((u16of p).extractLsb' 0 8) ((u16of p).extractLsb' 8 8)) = p := by
    rw [le16_bytes, s16_u16of hp hp']
  exact ⟨_, sealed (controlHeader (u16of y) (u16of p)), execAll_sendControl _ _ s, rfl, rfl, hyaw, hpitch⟩

/-! ### 41_tx_encoder.md: the operand commands (R123, R124) -/

/-- Settles O23: op 0x10 has format H, and YAW_OUT stands at 0x004, sign-extended. -/
theorem setYawStoresOperand : Obligations.SetYawStoresOperand :=
  ⟨fun h s => ⟨exec_setYaw s h, rfl⟩, decode_of_formatH (op := 0x10#8) fun _ => rfl⟩

/-- Settles O24: op 0x11 has format H, and PITCH_OUT stands at 0x005, sign-extended. -/
theorem setPitchStoresOperand : Obligations.SetPitchStoresOperand :=
  ⟨fun h s => ⟨exec_setPitch s h, rfl⟩, decode_of_formatH (op := 0x11#8) fun _ => rfl⟩

/-! ### 41_tx_encoder.md: the three frames (R125 to R127) -/

/-- Settles O25: the header is sealed, the example's checksum is computed, and op 0x20 has format N. -/
theorem txControlEmitsFrame : Obligations.TxControlEmitsFrame := by
  refine ⟨?_, fun _ hw => decode_of_formatN (fun _ => rfl) hw, ?_⟩
  · rintro s hdr rfl
    rw [List.append_assoc]
    exact exec_eq_of_emits (exec_txControl s) rfl rfl
  · intro s hyaw hpitch
    have hcrc : crc16 (controlHeader (BitVec.ofInt 16 450) (BitVec.ofInt 16 (-300))) = 0x7926#16 := by decide
    exact exec_eq_of_emits (by rw [exec_txControl, hyaw, hpitch]) hcrc rfl

/-- Settles O26: each variant's header is a constant with one checksum, and op 0x21 has format N. -/
theorem txHomeEmitsFrame : Obligations.TxHomeEmitsFrame := by
  have htable : crc16 (homeHeader .table) = 0xEDE9#16 := by decide
  have hvec8 : crc16 (homeHeader .vec8) = 0x12D1#16 := by decide
  exact ⟨fun s hv => exec_eq_of_emits (by rw [exec_txHome, hv]) htable rfl,
    fun s hv => exec_eq_of_emits (by rw [exec_txHome, hv]) hvec8 rfl,
    fun _ hw => decode_of_formatN (fun _ => rfl) hw⟩

/-- Settles O27: the header is a constant with one checksum, and op 0x22 has format N. -/
theorem txAttreqEmitsFrame : Obligations.TxAttreqEmitsFrame := by
  have hcrc : crc16 attreqHeader = 0x05E8#16 := by decide
  exact ⟨fun s => exec_eq_of_emits (exec_txAttreq s) hcrc rfl, fun _ hw => decode_of_formatN (fun _ => rfl) hw⟩

end Sys2Proof.Machine


namespace Sys2Proof.Machine

/-! ### 42_rx_decoder.md: RX_RESET and RX_ABORT (R142, R159) -/

/-- Settles O33: RX_RESET only returns the decoder to SEARCH, and op 0x30 has format N. -/
theorem rxResetDropsFrame : Obligations.RxResetDropsFrame :=
  ⟨exec_rxReset, fun _ hw => decode_of_formatN (fun _ => rfl) hw⟩

/-- The outcome of an abort depends on COLLECT alone (R159). -/
theorem abortOutcome_eq_ite (x : RxState) : abortOutcome x = if x = .collect then .shortFrame else .timeout := by
  cases x <;> rfl

/-- Settles O38: the outcome is `abortOutcome_eq_ite`, and op 0x32 has format N. -/
theorem rxAbortRecordsOutcome : Obligations.RxAbortRecordsOutcome := by
  refine ⟨fun s => ?_, fun _ hw => decode_of_formatN (fun _ => rfl) hw⟩
  rw [exec_rxAbort, abortOutcome_eq_ite]
  rfl

/-! ### 42_rx_decoder.md: RX_BYTE before the last frame byte (R144, R146, R147) -/

/-- Settles O34: the two tests of `search_step`, SCAN_EN and then the byte. -/
theorem rxByteInSearch : Obligations.RxByteInSearch := by
  intro s b hrx
  rw [exec_rxByte_search s b hrx, searchStep, stx0]
  refine ⟨fun hscan hb => ?_, fun hscan hb => ?_, fun hscan => ?_⟩
  · rw [if_pos hscan, if_pos hb]
    rfl
  · rw [if_pos hscan, if_neg hb]
  · rw [if_neg (Bool.eq_false_iff.mp hscan)]
    rfl

/-- Settles O35: the two tests of `have55_step`, 0x66 and then 0x55. -/
theorem rxByteInHave55 : Obligations.RxByteInHave55 := by
  intro s b hrx
  rw [exec_rxByte_have55 s b hrx, have55Step, stx0, stx1]
  refine ⟨fun hb => ?_, fun hb => ?_, fun hne1 hne0 => ?_⟩
  · rw [if_pos hb]
    rfl
  · rw [if_neg (by rw [hb]; decide), if_pos hb]
  · rw [if_neg hne1, if_neg hne0]
    rfl

/-- Moving the position within one receive state writes RX_COUNT alone. -/
theorem setRx_same {x : RxState} {s : State} (h : s.status.rxState = x) (n : Fin 22) :
    setRx x n s = { s with rxCount := n } := by
  rw [← h]
  rfl

theorem collectStep_of_lt {s : State} (hlt : s.rxCount.val + 1 < 22) (b : Byte) :
    collectStep b s = setRx .collect ⟨s.rxCount.val + 1, hlt⟩ (storeRx s.rxCount b s) :=
  dif_pos hlt

theorem collectStep_of_full {s : State} (hfull : s.rxCount.val = 21) (b : Byte) :
    collectStep b s = complete (storeRx s.rxCount b s) :=
  dif_neg (by omega)

/-- Settles O36: the byte is not the 22nd, so `collect_step` stores it and stays in COLLECT. -/
theorem rxByteInCollect : Obligations.RxByteInCollect := by
  intro s b n hrx hn
  have hlt : s.rxCount.val + 1 < 22 := hn ▸ n.isLt
  obtain rfl : n = ⟨s.rxCount.val + 1, hlt⟩ := Fin.ext hn
  rw [exec_rxByte_collect s b hrx, collectStep_of_lt hlt, setRx_same (s := storeRx s.rxCount b s) hrx]
  rfl

/-! ### 42_rx_decoder.md: the pitch decode (R155) -/

/-- PITCH_DD holds the decoded pitch without overflow, since the decode stays within the i32 range (R40). -/
theorem pitchDdOf_toInt (raw : Half) : (pitchDdOf raw).toInt = pitchTenths raw.toInt := by
  obtain ⟨hlo, hhi⟩ := pitchTenths_bounds raw.le_toInt (Int.le_sub_one_of_lt raw.toInt_lt)
  rw [pitchDdOf, s16_eq_toInt]
  exact BitVec.toInt_ofInt_eq_self (by decide) (by omega) (by omega)

/-- Settles O39: the decode and its bounds hold of every i16, and the boundary values are computed. -/
theorem pitchDecodeIsAsymmetric : Obligations.PitchDecodeIsAsymmetric := by
  refine ⟨fun raw => ?_, by decide, by decide, by decide, by decide⟩
  rw [pitchDdOf_toInt]
  exact ⟨rfl, pitchTenths_bounds raw.le_toInt (Int.le_sub_one_of_lt raw.toInt_lt)⟩

/-! ### 42_rx_decoder.md: the completion of a frame (R147 to R153) -/

/-- In COLLECT with 21 bytes held, the byte is stored as frame byte 21 and the frame completed (R147, R148). -/
theorem exec_rxByte_last {s : State} (hrx : s.status.rxState = .collect) (hfull : s.rxCount.val = 21) (b : Byte) :
    exec (.rxByte b) s = .next (complete (storeRx 21 b s)) := by
  have h21 : s.rxCount = 21 := Fin.ext hfull
  rw [exec_rxByte_collect s b hrx, collectStep_of_full hfull, h21]

/-- A completion whose outcome does not accept the frame loads its header alone (R152). -/
theorem complete_of_rejected {s : State} {o : RxResult} (ho : frameOutcome (toSearch (loadHeader s)) = o)
    (ha : o.accepted = false) : complete s = record o (toSearch (loadHeader s)) := by
  rw [complete, ho, ha]
  rfl

/-- A completion whose outcome accepts the frame loads its fields too (R152, R153). -/
theorem complete_of_accepted {s : State} {o : RxResult} (ho : frameOutcome (toSearch (loadHeader s)) = o)
    (ha : o.accepted = true) : complete s = record o (loadFields (toSearch (loadHeader s))) := by
  rw [complete, ho, ha]
  rfl

/-- The STX as the 16-bit value the first check compares (R59 20_memory.md). -/
theorem frameHalf_zero_eq_stx_iff (f : Vector Byte 22) :
    frameHalf f 0 = 0x6655#16 ↔ f[0] = 0x55#8 ∧ f[1] = 0x66#8 := by
  rw [frameHalf_eq_append, show 0x6655#16 = 0x66#8 ++ 0x55#8 from rfl, bitVec_append_inj_iff, and_comm]

section frameOutcome

variable {s : State}

/-! The checks of `complete()`, first to fail first (R152, R186 60_exceptions.md). -/

theorem frameOutcome_of_stx_ne (hstx : frameHalf s.rxBuf 0 ≠ 0x6655#16) : frameOutcome s = .syncError :=
  if_pos hstx

theorem frameOutcome_of_len_ne (hstx : frameHalf s.rxBuf 0 = 0x6655#16) (hlen : s.rxLen ≠ 12#16) :
    frameOutcome s = .lengthError := by
  rw [frameOutcome, if_neg (not_not_intro hstx), if_pos hlen]

theorem frameOutcome_of_len_eq (hstx : frameHalf s.rxBuf 0 = 0x6655#16) (hlen : s.rxLen = 12#16) :
    frameOutcome s = if s.rxCrcCalc = s.rxCrcRecv then .ok
      else if s.config.crcStrict then .crcRejected else .okCrcMismatch := by
  rw [frameOutcome, if_neg (not_not_intro hstx), if_neg (not_not_intro hlen)]

end frameOutcome

/-- Settles O37: the checks of `frameOutcome` name the outcome of each clause, and it decides whether
`complete_of_rejected` or `complete_of_accepted` gives the next state. -/
theorem rxByteCompletesFrame : Obligations.RxByteCompletesFrame := by
  intro s b f base fields st hrx hfull hf hbase hfields hst
  obtain ⟨hdr, hhdr⟩ : ∃ hdr, hdr = toSearch (loadHeader (storeRx 21 b s)) := ⟨_, rfl⟩
  obtain rfl : f = hdr.rxBuf := hf.trans (hhdr ▸ rfl)
  obtain rfl : base = { hdr with status := s.status } := by
    rw [hbase, hhdr]
    simp only [loadHeader, toSearch, setRx, frameHalf_eq_append]
    rfl
  obtain rfl : fields = { loadFields hdr with status := s.status } := by
    rw [hfields]
    simp only [loadFields, frameHalf_eq_append, pitchDdOf, pitchTenths, s16_eq_toInt]
  have hconfig : hdr.config = s.config := hhdr ▸ rfl
  have hstatus (o : RxResult) : st o = recordedStatus o hdr.status := (hst o).trans (hhdr ▸ rfl)
  have hrejected {o : RxResult} (ho : frameOutcome hdr = o) (ha : o.accepted = false) :
      exec (.rxByte b) s = .next { hdr with status := st o } := by
    rw [exec_rxByte_last hrx hfull, complete_of_rejected (hhdr ▸ ho) ha, ← hhdr, hstatus, record]
  have haccepted {o : RxResult} (ho : frameOutcome hdr = o) (ha : o.accepted = true) :
      exec (.rxByte b) s = .next { loadFields hdr with status := st o } := by
    rw [exec_rxByte_last hrx hfull, complete_of_accepted (hhdr ▸ ho) ha, ← hhdr, hstatus, record, loadFields_status]
  rw [← frameHalf_zero_eq_stx_iff]
  refine ⟨fun hstx => hrejected (frameOutcome_of_stx_ne hstx) rfl, fun h0 h1 => ?_⟩
  have hstx : frameHalf hdr.rxBuf 0 = 0x6655#16 := (frameHalf_zero_eq_stx_iff _).mpr ⟨h0, h1⟩
  refine ⟨fun hlen => hrejected (frameOutcome_of_len_ne hstx hlen) rfl, fun hlen hcrc hstrict => ?_,
    fun hlen hcrc hstrict => ?_, fun hlen hcrc => ?_⟩
  · refine hrejected (o := .crcRejected) ?_ rfl
    rw [frameOutcome_of_len_eq hstx hlen, if_neg hcrc, hconfig, if_pos hstrict]
  · refine haccepted (o := .okCrcMismatch) ?_ rfl
    rw [frameOutcome_of_len_eq hstx hlen, if_neg hcrc, hconfig, if_neg (Bool.eq_false_iff.mp hstrict)]
  · refine haccepted (o := .ok) ?_ rfl
    rw [frameOutcome_of_len_eq hstx hlen, if_pos hcrc]

/-! ### 42_rx_decoder.md: runs of received bytes (R146, R164) -/

/-- A list that completes does so through the state its first command leaves (R67 20_memory.md). -/
theorem exists_of_execAll_cons {i : Instr} {is : List Instr} {s t : State} (h : execAll (i :: is) s = .next t) :
    ∃ u, exec i s = .next u ∧ execAll is u = .next t := by
  rw [execAll] at h
  cases hi : exec i s with
  | next u => exact ⟨u, rfl, by simpa only [hi] using h⟩
  | fault r => nomatch r
  | refused r => simp only [hi, reduceCtorEq] at h

/-- A list that completes goes on with the list after it from the state it leaves. -/
theorem execAll_append_of_execAll {is : List Instr} {s t : State} (h : execAll is s = .next t) (js : List Instr) :
    execAll (is ++ js) s = execAll js t := by
  induction is generalizing s with
  | nil => rw [← Host.Outcome.next.inj h, List.nil_append]
  | cons i is ih =>
    obtain ⟨u, hi, his⟩ := exists_of_execAll_cons h
    rw [List.cons_append, execAll_cons_of_exec hi, ih his]

/-- Received bytes that each leave a state as it is leave it so one after the other. -/
theorem execAll_rxByte_self {bs : List Byte} {s : State} (h : ∀ b ∈ bs, exec (.rxByte b) s = .next s) :
    execAll (bs.map .rxByte) s = .next s := by
  induction bs with
  | nil => rfl
  | cons b bs ih =>
    obtain ⟨hb, hbs⟩ := List.forall_mem_cons.mp h
    exact (execAll_cons_of_exec hb _).trans (ih hbs)

/-- In HAVE55 any number of 0x55 keeps the decoder there, and the 0x66 after them completes the STX. -/
theorem execAll_have55_run {s : State} (hrx : s.status.rxState = .have55) (n : Nat) :
    execAll ((List.replicate n 0x55#8 ++ [0x66#8]).map .rxByte) s = .next { s with
      rxBuf := s.rxBuf.set 1 0x66#8, rxCount := 2, status := { s.status with rxState := .collect } } := by
  have hrun : execAll ((List.replicate n 0x55#8).map .rxByte) s = .next s := execAll_rxByte_self fun b hb => by
    obtain ⟨-, hrepeat, -⟩ := rxByteInHave55 s b hrx
    exact hrepeat (List.eq_of_mem_replicate hb)
  obtain ⟨hsync, -, -⟩ := rxByteInHave55 s 0x66#8 hrx
  rw [List.map_append, execAll_append_of_execAll hrun]
  exact execAll_cons_of_exec (hsync rfl) []

/-- Settles O44: in SEARCH the noise changes nothing and the first 0x55 leads to HAVE55; the rest of the run is
`execAll_have55_run`. -/
theorem scanSyncsOnLastOfRun : Obligations.ScanSyncsOnLastOfRun := by
  intro s noise n hrx hscan hnoise
  have hskip : execAll (noise.map .rxByte) s = .next s := execAll_rxByte_self fun b hb => by
    obtain ⟨-, hother, -⟩ := rxByteInSearch s b hrx
    exact hother hscan (hnoise b hb)
  obtain ⟨hfirst, -, -⟩ := rxByteInSearch s 0x55#8 hrx
  refine ⟨hskip, ?_⟩
  rw [List.append_assoc, List.replicate_succ, List.cons_append, expandPseudo, List.map_append,
    execAll_append_of_execAll hskip, List.map_cons, execAll_cons_of_exec (hfirst hscan rfl)]
  exact execAll_have55_run rfl n

/-! ### 42_rx_decoder.md: a whole frame received (R152, R164) -/

/-- The buffer v once the first n bytes of the frame f have been stored over it (R160). -/
def storedOver (f v : Vector Byte 22) (n : Nat) : Vector Byte 22 :=
  Vector.ofFn fun k => if k.val < n then f[k] else v[k]

@[simp] theorem storedOver_get (f v : Vector Byte 22) (n : Nat) {k : Nat} (hk : k < 22) :
    (storedOver f v n)[k] = if k < n then f[k] else v[k] := by
  simp [storedOver]

@[simp] theorem storedOver_full (f v : Vector Byte 22) : storedOver f v 22 = f :=
  Vector.ext fun k hk => by simp [hk]

/-- Storing the next byte of the frame stores one byte more of it. -/
theorem storedOver_set (f v : Vector Byte 22) {n : Nat} (hn : n < 22) :
    (storedOver f v n).set n f[n] = storedOver f v (n + 1) := by
  refine Vector.ext fun k hk => ?_
  obtain rfl | hne := eq_or_ne n k
  · simp
  · have hlt : k < n + 1 ↔ k < n := by omega
    simp [hne, hlt]

/-- The STX stored over v. -/
theorem storedOver_two (f v : Vector Byte 22) : (v.set 0 f[0]).set 1 f[1] = storedOver f v 2 := by
  have hzero : storedOver f v 0 = v := Vector.ext fun k hk => by simp
  rw [← storedOver_set f v (n := 1) (by decide), ← storedOver_set f v (n := 0) (by decide), hzero]

/-- The state s once it has stored the first n bytes of the frame f and waits for the next. -/
def State.collecting (s : State) (f : Vector Byte 22) (n : Fin 22) : State :=
  { s with rxBuf := storedOver f s.rxBuf n, rxCount := n, status := { s.status with rxState := .collect } }

/-- The next byte of the frame, when it is not the last, is collected. -/
theorem exec_rxByte_collecting (s : State) (f : Vector Byte 22) {n : Nat} (hn : n + 1 < 22) :
    exec (.rxByte f[n]) (s.collecting f ⟨n, by omega⟩) = .next (s.collecting f ⟨n + 1, hn⟩) := by
  rw [rxByteInCollect _ _ ⟨n + 1, hn⟩ rfl rfl]
  simp only [State.collecting, storedOver_set]

/-- From SEARCH with the scan on, a frame that begins with the STX is collected byte by byte up to its last byte. -/
theorem execAll_collecting {s : State} {f : Vector Byte 22} (hrx : s.status.rxState = .search)
    (hscan : s.config.scanEn = true) (h0 : f[0] = 0x55#8) (h1 : f[1] = 0x66#8) {n : Nat} (h2 : 2 ≤ n) (hn : n < 22) :
    execAll ((f.toList.take n).map .rxByte) s = .next (s.collecting f ⟨n, hn⟩) := by
  induction n, h2 using Nat.le_induction with
  | base =>
    obtain ⟨-, hstx⟩ := scanSyncsOnLastOfRun s [] 0 hrx hscan (List.forall_mem_nil _)
    have htake : f.toList.take 2 = [0x55#8, 0x66#8] := by
      simp [List.take_succ_eq_append_getElem, h0, h1]
    rw [htake, State.collecting, ← storedOver_two, h0, h1]
    exact hstx
  | succ n h2 ih =>
    have htake : f.toList.take (n + 1) = f.toList.take n ++ [f[n]] :=
      List.take_succ_eq_append_getElem (by rw [Vector.length_toList]; omega)
    rw [htake, List.map_append, execAll_append_of_execAll (ih (by omega))]
    exact execAll_cons_of_exec (exec_rxByte_collecting s f hn) []

/-- Settles O45: 21 bytes are collected (`execAll_collecting`), and the last completes the frame with outcome OK
(`rxByteCompletesFrame`). -/
theorem validReportIsReceived : Obligations.ValidReportIsReceived := by
  intro s f hrx hscan h0 h1 h3 h4 hcrc
  have hlen : f[4] ++ f[3] = 12#16 := by
    rw [h3, h4]
    rfl
  have hbuf : (storedOver f s.rxBuf 21).set 21 f[21] = f := by rw [storedOver_set, storedOver_full]
  obtain ⟨-, hstx⟩ := rxByteCompletesFrame (s.collecting f 21) f[21] f _ _ _ rfl rfl hbuf.symm rfl rfl fun _ => rfl
  obtain ⟨-, -, -, hok⟩ := hstx h0 h1
  have hcollect := execAll_collecting hrx hscan h0 h1 (n := 21) (by decide) (by decide)
  have hbytes : f.toList = f.toList.take 21 ++ [f[21]] :=
    calc f.toList = f.toList.take 22 := (List.take_of_length_le f.length_toList.le).symm
      _ = f.toList.take 21 ++ [f[21]] := List.take_succ_eq_append_getElem (by simp)
  rw [hbytes, expandPseudo, List.map_append, execAll_append_of_execAll hcollect]
  refine (execAll_cons_of_exec (hok hlen hcrc) []).trans ?_
  simp only [execAll_nil, State.collecting, hlen, hcrc, pitchDdOf, pitchTenths, s16_eq_toInt]

/-! ### 42_rx_decoder.md: stored bytes stay (R160) -/

@[simp] theorem complete_rxBuf (s : State) : (complete s).rxBuf = s.rxBuf := by
  obtain ⟨o, -, ⟨-, hc⟩ | ⟨-, hc⟩⟩ := complete_cases s <;> simp [hc]

/-- RX_BYTE leaves RX_BUF as it is or stores the byte at RX_COUNT: the positions 0 of SEARCH and 1 of HAVE55 are
RX_COUNT by the invariant (R36 10_state.md). -/
theorem exec_rxByte_rxBuf {b : Byte} {s t : State} (hs : RxAgrees s) (h : exec (.rxByte b) s = .next t) :
    t.rxBuf = s.rxBuf ∨ t.rxBuf = (storeRx s.rxCount b s).rxBuf := by
  obtain ⟨hsearch, hhave55, -⟩ := hs
  rw [exec_rxByte] at h
  obtain ⟨hrx, he⟩ | ⟨hrx, he⟩ | ⟨-, he⟩ := execRxByte_cases b s <;>
    obtain rfl := Host.Outcome.next.inj (he.symm.trans h)
  · have hcount : s.rxCount = 0 := Fin.ext (hsearch.mp hrx)
    obtain ⟨-, -, ht⟩ | ⟨-, -, ht⟩ | ⟨-, ht⟩ := searchStep_cases b s <;> simp [ht, hcount]
  · obtain ⟨hone, -⟩ := hhave55 hrx
    have hcount : s.rxCount = 1 := Fin.ext hone
    obtain ⟨-, ht⟩ | ⟨-, ht⟩ | ⟨-, -, ht⟩ := have55Step_cases b s <;> simp [ht, hcount]
  · obtain ⟨_, ht⟩ | ⟨-, ht⟩ := collectStep_cases b s <;> simp [ht]

/-- Settles O43: RX_BYTE stores one byte at RX_COUNT (`exec_rxByte_rxBuf`), and no other command writes RX_BUF. -/
theorem staleBytesAreKept : Obligations.StaleBytesAreKept := by
  rintro i s t k ⟨hrx, -, -⟩ h hne
  cases i with
  | rxByte b =>
    obtain ht | ht := exec_rxByte_rxBuf hrx h
    · exact absurd (by rw [ht]) hne
    · obtain rfl | hk := eq_or_ne k s.rxCount
      · have hb : t.rxBuf[s.rxCount] = b := by
          rw [ht]
          exact storeRx_get_same _ _ _
        exact ⟨rfl, by rw [hb]⟩
      · refine absurd ?_ hne
        rw [ht]
        exact storeRx_get_other _ _ _ k.isLt (Fin.val_ne_of_ne hk.symm)
  | _ =>
    obtain rfl := Host.Outcome.next.inj h
    exact absurd rfl hne

/-! ### 42_rx_decoder.md: with the scan on, every frame begins with the STX (R162) -/

/-- What stays true while SCAN_EN stays on. -/
abbrev ScanInv (s : State) : Prop :=
  BlockInv s ∧ InSync s ∧ s.config.scanEn = true ∧ s.status.result ≠ .syncError

/-- The first check of a completion fails exactly on a frame that does not begin with the STX. -/
theorem frameOutcome_eq_syncError_iff (s : State) :
    frameOutcome s = .syncError ↔ frameHalf s.rxBuf 0 ≠ 0x6655#16 := by
  obtain ⟨ho, h⟩ | ⟨ho, h, -⟩ | ⟨ho, h, -⟩ | ⟨ho, h, -⟩ | ⟨ho, h, -⟩ := frameOutcome_cases s <;> simp [ho, h]

/-- A completion returns to SEARCH and records the outcome of its checks. -/
theorem complete_status (s : State) :
    (complete s).status =
      recordedStatus (frameOutcome (toSearch (loadHeader s))) { s.status with rxState := .search } := by
  obtain ⟨o, rfl, hc⟩ := complete_eq s
  rw [hc, record_status]
  split <;> rfl

@[simp] theorem complete_config (s : State) : (complete s).config = s.config := by
  obtain ⟨o, -, ⟨-, hc⟩ | ⟨-, hc⟩⟩ := complete_cases s <;> simp [hc]

theorem inSync_of_ne_collect {s : State} (h : s.status.rxState ≠ .collect) : InSync s := fun hc => absurd hc h

/-- A stored byte that is not one of the first two leaves the STX in place. -/
theorem storeRx_keeps_stx {s : State} {n : Fin 22} (hn : 2 ≤ n.val) (h0 : s.rxBuf[0] = stx0) (h1 : s.rxBuf[1] = stx1)
    (b : Byte) : (storeRx n b s).rxBuf[0] = stx0 ∧ (storeRx n b s).rxBuf[1] = stx1 :=
  ⟨(storeRx_get_other n b s _ (by omega)).trans h0, (storeRx_get_other n b s _ (by omega)).trans h1⟩

/-- A frame that begins with the STX completes without SYNC_ERROR. -/
theorem complete_result_ne_syncError {s : State} (h0 : s.rxBuf[0] = stx0) (h1 : s.rxBuf[1] = stx1) :
    (complete s).status.result ≠ .syncError := by
  rw [complete_status, recordedStatus_result, Ne, frameOutcome_eq_syncError_iff, not_not]
  exact (frameHalf_zero_eq_stx_iff _).mpr ⟨h0, h1⟩

theorem exec_rxByte_keeps_scanInv {b : Byte} {s t : State} (hs : ScanInv s) (h : exec (.rxByte b) s = .next t) :
    ScanInv t := by
  have ⟨hinv, hsync, hscan, hres⟩ := hs
  have ⟨⟨_, hhave55, _⟩, _⟩ := hinv
  refine ⟨exec_rxByte_keeps_blockInv hinv h, ?_⟩
  rw [exec_rxByte] at h
  obtain ⟨hrx, he⟩ | ⟨hrx, he⟩ | ⟨hrx, he⟩ := execRxByte_cases b s <;>
    obtain rfl := Host.Outcome.next.inj (he.symm.trans h)
  · obtain ⟨-, -, ht⟩ | ⟨-, -, ht⟩ | ⟨hoff, -⟩ := searchStep_cases b s
    · rw [ht]
      exact ⟨inSync_of_ne_collect (by simp), hscan, hres⟩
    · rw [ht]
      exact ⟨hsync, hscan, hres⟩
    · exact absurd (hscan.symm.trans hoff) (by decide)
  · obtain ⟨rfl, ht⟩ | ⟨-, ht⟩ | ⟨-, -, ht⟩ := have55Step_cases b s <;> rw [ht]
    · obtain ⟨-, h0⟩ := hhave55 hrx
      refine ⟨fun _ => ⟨le_refl 2, ?_, storeRx_get_same 1 stx1 s⟩, hscan, hres⟩
      exact (storeRx_get_other 1 stx1 s _ (by decide)).trans h0
    · exact ⟨hsync, hscan, hres⟩
    · exact ⟨inSync_of_ne_collect (by simp), hscan, hres⟩
  · obtain ⟨hcount, h0, h1⟩ := hsync hrx
    obtain ⟨h0', h1'⟩ := storeRx_keeps_stx hcount h0 h1 b
    obtain ⟨_, ht⟩ | ⟨-, ht⟩ := collectStep_cases b s <;> rw [ht]
    · exact ⟨fun _ => ⟨Nat.le_succ_of_le hcount, h0', h1'⟩, hscan, hres⟩
    · exact ⟨inSync_of_ne_collect (by simp [complete_status]), by simpa using hscan,
        complete_result_ne_syncError h0' h1'⟩

/-- An abort records TIMEOUT or SHORT_FRAME (R159). -/
theorem abortOutcome_ne_syncError (x : RxState) : abortOutcome x ≠ .syncError := by
  cases x <;> decide

/-- Every command keeps the invariant, but for a CFG_WRITE that clears SCAN_EN. -/
theorem exec_keeps_scanInv {i : Instr} {s t : State} (hi : ∀ m : Half, i = .cfgWrite m → m.getLsbD 0 = true)
    (hs : ScanInv s) (h : exec i s = .next t) : ScanInv t := by
  have ⟨hinv, hsync, hscan, hres⟩ := hs
  have hinv' := exec_keeps_blockInv hinv h
  cases i with
  | rxByte b => exact exec_rxByte_keeps_scanInv hs h
  | rxReset =>
    obtain rfl := Host.Outcome.next.inj h
    exact ⟨hinv', inSync_of_ne_collect (by simp), hscan, hres⟩
  | rxAbort =>
    obtain rfl := Host.Outcome.next.inj h
    exact ⟨hinv', inSync_of_ne_collect (by simp), hscan, abortOutcome_ne_syncError _⟩
  | cfgWrite m =>
    obtain rfl := Host.Outcome.next.inj h
    exact ⟨hinv', hsync, hi m rfl, hres⟩
  | _ =>
    obtain rfl := Host.Outcome.next.inj h
    exact ⟨hinv', hsync, hscan, hres⟩

/-- What every command of a list keeps, the list keeps. -/
theorem execAll_keeps {P : State → Prop} {is : List Instr} {s t : State}
    (hstep : ∀ i ∈ is, ∀ s t, P s → exec i s = .next t → P t) (hs : P s) (h : execAll is s = .next t) : P t := by
  induction is generalizing s with
  | nil => exact Host.Outcome.next.inj h ▸ hs
  | cons i is ih =>
    obtain ⟨hi, his⟩ := List.forall_mem_cons.mp hstep
    obtain ⟨u, hu, ht⟩ := exists_of_execAll_cons h
    exact ih his (hi s u hs hu) ht

/-- Settles O41: `ScanInv` is kept by every command of the list. -/
theorem scanNeverSyncError : Obligations.ScanNeverSyncError := by
  intro is s t hinv hsync hscan hres hcfg h
  obtain ⟨hinv', hsync', -, hres'⟩ := execAll_keeps (P := ScanInv)
    (fun i hi _ _ => exec_keeps_scanInv fun m hm => hcfg m (hm ▸ hi)) ⟨hinv, hsync, hscan, hres⟩ h
  exact ⟨hres', hinv', hsync'⟩

/-! ### 42_rx_decoder.md: where CONFIG is read (R161) -/

/-- The state with other values in CONFIG, everything else as it was. -/
def State.withConfig (s : State) (c : ConfigReg) : State := { s with config := c }

section withConfig

variable {s : State} {c : ConfigReg}

@[simp] theorem withConfig_config : (s.withConfig c).config = c := rfl
theorem record_withConfig (o : RxResult) : record o (s.withConfig c) = (record o s).withConfig c := rfl

/-! A step that tests a bit of CONFIG takes the same branch when that bit is the same, and no branch copies CONFIG into
another register. -/

theorem frameOutcome_withConfig (hc : c.crcStrict = s.config.crcStrict) :
    frameOutcome (s.withConfig c) = frameOutcome s := by
  rw [frameOutcome, frameOutcome, withConfig_config, hc]
  rfl

theorem complete_withConfig (hc : c.crcStrict = s.config.crcStrict) :
    complete (s.withConfig c) = (complete s).withConfig c := by
  have ho : frameOutcome (toSearch (loadHeader (s.withConfig c))) = frameOutcome (toSearch (loadHeader s)) :=
    frameOutcome_withConfig (s := toSearch (loadHeader s)) hc
  rw [complete, complete, ho, ← record_withConfig, apply_ite (State.withConfig · c)]
  rfl

theorem searchStep_withConfig (b : Byte) (hc : c.scanEn = s.config.scanEn) :
    searchStep b (s.withConfig c) = (searchStep b s).withConfig c := by
  rw [searchStep, searchStep, withConfig_config, hc, apply_ite (State.withConfig · c),
    apply_ite (State.withConfig · c)]
  rfl

theorem have55Step_withConfig (b : Byte) : have55Step b (s.withConfig c) = (have55Step b s).withConfig c := by
  rw [have55Step, have55Step, apply_ite (State.withConfig · c), apply_ite (State.withConfig · c)]
  rfl

theorem collectStep_withConfig (b : Byte) (hc : s.rxCount.val = 21 → c.crcStrict = s.config.crcStrict) :
    collectStep b (s.withConfig c) = (collectStep b s).withConfig c := by
  by_cases hlt : s.rxCount.val + 1 < 22
  · rw [collectStep_of_lt hlt]
    exact collectStep_of_lt (s := s.withConfig c) hlt b
  · have hfull : s.rxCount.val = 21 := by omega
    rw [collectStep_of_full hfull, ← complete_withConfig (s := storeRx s.rxCount b s) (hc hfull)]
    exact collectStep_of_full (s := s.withConfig c) hfull b

end withConfig

/-- RX_BYTE reads SCAN_EN in SEARCH, CRC_STRICT when it completes a frame, and CONFIG nowhere else. -/
theorem exec_rxByte_withConfig {b : Byte} {s t : State} {c : ConfigReg}
    (hscan : s.status.rxState = .search → c.scanEn = s.config.scanEn)
    (hstrict : recordsOutcome (.rxByte b) s = true → c.crcStrict = s.config.crcStrict)
    (h : exec (.rxByte b) s = .next t) : exec (.rxByte b) (s.withConfig c) = .next (t.withConfig c) := by
  rw [exec_rxByte] at h
  obtain ⟨hrx, he⟩ | ⟨hrx, he⟩ | ⟨hrx, he⟩ := execRxByte_cases b s <;>
    obtain rfl := Host.Outcome.next.inj (he.symm.trans h)
  · rw [exec_rxByte_search (s.withConfig c) b hrx, searchStep_withConfig b (hscan hrx)]
  · rw [exec_rxByte_have55 (s.withConfig c) b hrx, have55Step_withConfig]
  · have hfull (hn : s.rxCount.val = 21) := hstrict (decide_eq_true ⟨hrx, hn⟩)
    rw [exec_rxByte_collect (s.withConfig c) b hrx, collectStep_withConfig b hfull]

/-- Under another CONFIG that agrees on the bit it reads, a command other than CFG_WRITE leaves the same state but for
CONFIG. -/
theorem exec_withConfig {i : Instr} {s t : State} {c : ConfigReg} (hi : ∀ m : Half, i ≠ .cfgWrite m)
    (hscan : ∀ b : Byte, i = .rxByte b → s.status.rxState = .search → c.scanEn = s.config.scanEn)
    (hstrict : ∀ b : Byte, i = .rxByte b → recordsOutcome i s = true → c.crcStrict = s.config.crcStrict)
    (h : exec i s = .next t) : exec i (s.withConfig c) = .next (t.withConfig c) := by
  cases i with
  | rxByte b => exact exec_rxByte_withConfig (hscan b rfl) (hstrict b rfl) h
  | cfgWrite m => exact absurd rfl (hi m)
  | _ =>
    obtain rfl := Host.Outcome.next.inj h
    rfl

/-- Settles O42: the second part is `exec_withConfig`; at the CONFIG there is already it gives the same run, so that
CONFIG is still there after it. -/
theorem configIsReadWhereUsed : Obligations.ConfigIsReadWhereUsed := by
  intro i s t c hi h hscan hstrict
  have hself : exec i s = .next (t.withConfig s.config) :=
    exec_withConfig (c := s.config) hi (fun _ _ _ => rfl) (fun _ _ _ => rfl) h
  have hsame : t = t.withConfig s.config := Host.Outcome.next.inj (h.symm.trans hself)
  exact ⟨by rw [hsame, withConfig_config], exec_withConfig hi hscan hstrict h⟩

end Sys2Proof.Machine

namespace Sys2Proof

open Machine

/-! ### 43_control.md: the words of the control commands (R170 to R172) -/

/-- A word with reserved field 0 is decoded as its op and its low half (R70, R75 30_encoding.md): format H, which makes
no test, applied to the decoder of that op. -/
theorem decode_append (op : Byte) (imm : Half) : decode ((op ++ 0#8 : Half) ++ imm) = decodeOp op imm :=
  decode_of_formatH (i := decodeOp op) (fun _ => rfl) imm

/-- Op 0x40 has format M (R171). -/
theorem decode_cfgWrite_word (m : Half) : decode (0x4000#16 ++ m) = formatM cfgWriteForbidden .cfgWrite m :=
  decode_append 0x40#8 m

/-- Op 0x41 has format M (R172). -/
theorem decode_statusClear_word (m : Half) :
    decode (0x4100#16 ++ m) = formatM statusClearForbidden .statusClear m :=
  decode_append 0x41#8 m

end Sys2Proof

namespace Sys2Proof.Machine

/-! ### 43_control.md: CONFIG and STATUS as words under a mask (R171, R172) -/

/-- Bits that y does not have stay when the bits of y are cleared. -/
theorem and_not_of_and_eq_zero {n : Nat} {x y : BitVec n} (h : x &&& y = 0#n) : x &&& ~~~y = x := by
  calc x &&& ~~~y
      = (x &&& y) ||| (x &&& ~~~y) := by rw [h, BitVec.zero_or]
    _ = x &&& (y ||| ~~~y) := BitVec.and_or_distrib_left.symm
    _ = x := by rw [BitVec.or_not_self, BitVec.and_allOnes]

/-- Bits that all lie where m must be 0 are not cleared by m. -/
theorem and_not_of_forbidden {x m forbidden : Half} (hm : m &&& forbidden = 0#16) (hx : x &&& forbidden = x) :
    x &&& ~~~m = x := by
  refine and_not_of_and_eq_zero ?_
  rw [← hx, BitVec.and_assoc, BitVec.and_comm forbidden, hm, BitVec.and_zero]

/-- Bit n of m, put back in its place. -/
theorem flagAt_getLsbD (m : Half) (n : Nat) : flagAt (m.getLsbD n) n = m &&& 1#16 <<< n := by
  rw [← BitVec.twoPow_eq, BitVec.and_twoPow]
  rfl

/-- Clearing the bits of m in a flag clears it exactly when m selects its place. -/
theorem flagAt_and_not (f : Bool) (m : Half) {n : Nat} (hn : n < 16) :
    flagAt f n &&& ~~~m = flagAt (f && !m.getLsbD n) n := by
  cases f with
  | false => exact BitVec.zero_and
  | true =>
    rw [flagAt, if_pos rfl, ← BitVec.twoPow_eq, BitVec.twoPow_and, BitVec.getLsbD_not, decide_eq_true hn]
    rfl

/-- What CFG_WRITE stores reads back as its operand (R171). -/
theorem configWord_configOf {m : Half} (hm : m &&& cfgWriteForbidden = 0#16) : configWord (configOf m) = m := by
  calc configWord (configOf m)
      = (m &&& 1#16 <<< 0) ||| (m &&& 1#16 <<< 1) := by simp only [configWord, configOf, flagAt_getLsbD]
    _ = m &&& ~~~cfgWriteForbidden := BitVec.and_or_distrib_left.symm
    _ = m := and_not_of_and_eq_zero hm

/-- The receive state and the outcome lie outside the bits that STATUS_CLEAR may select (R172). -/
theorem rxState_code_and_forbidden (x : RxState) : x.code &&& statusClearForbidden = x.code := by
  cases x <;> decide

theorem result_code_and_forbidden (o : RxResult) : o.code <<< 4 &&& statusClearForbidden = o.code <<< 4 := by
  cases o <;> decide

/-- STATUS after STATUS_CLEAR reads as before with the operand's bits 0 (R172): the codes are outside the operand, and
each sticky flag is cleared by its own bit. -/
theorem statusWord_clearedStatus {m : Half} (hm : m &&& statusClearForbidden = 0#16) (t : Status) :
    statusWord (clearedStatus m t) = statusWord t &&& ~~~m := by
  have hrx := and_not_of_forbidden hm (rxState_code_and_forbidden t.rxState)
  have hres := and_not_of_forbidden hm (result_code_and_forbidden t.result)
  simp only [statusWord, BitVec.and_or_distrib_right, hrx, hres, flagAt_and_not _ m (show 2 < 16 by decide),
    flagAt_and_not _ m (show 7 < 16 by decide), flagAt_and_not _ m (show 8 < 16 by decide), clearedStatus]

/-! ### 43_control.md: the control commands (R170 to R175) -/

/-- Settles O46: `exec_nop`, and op 0x00 has format N, whose one word is 0x00000000. -/
theorem nopChangesNothing : Obligations.NopChangesNothing :=
  ⟨exec_nop, fun _ hw => decode_of_formatN (fun _ => rfl) hw⟩

/-- Settles O49: ILLEGAL is `cmdError`. -/
theorem illegalSetsCmdErr : Obligations.IllegalSetsCmdErr := exec_illegal

/-- Settles O47: the operand passes or fails the test of format M, and what is stored reads back
(`configWord_configOf`). -/
theorem cfgWriteSetsConfig : Obligations.CfgWriteSetsConfig := by
  refine ⟨fun m s hm => ⟨?_, exec_cfgWrite s m, ?_⟩, fun m s hm => ?_⟩
  · exact (decode_cfgWrite_word m).trans (if_pos hm)
  · exact congrArg zext16 (configWord_configOf hm)
  · have hill : decode (0x4000#16 ++ m) = .illegal := (decode_cfgWrite_word m).trans (if_neg hm)
    exact ⟨hill, hill ▸ illegalSetsCmdErr s⟩

/-- Settles O48: the operand passes or fails the test of format M, and STATUS reads as
`statusWord_clearedStatus` says. -/
theorem statusClearClearsSelected : Obligations.StatusClearClearsSelected := by
  refine ⟨?_, fun m s hm => ?_⟩
  · rintro m s t hm rfl
    have hdecode : decode (0x4100#16 ++ m) = .statusClear m := (decode_statusClear_word m).trans (if_pos hm)
    exact ⟨hdecode, exec_statusClear s m, statusWord_clearedStatus hm s.status⟩
  · have hill : decode (0x4100#16 ++ m) = .illegal := (decode_statusClear_word m).trans (if_neg hm)
    exact hill ▸ illegalSetsCmdErr s

/-- Everything a control command can do: it writes CONFIG and STATUS alone (R175). -/
theorem exec_of_isControl {i : Instr} (hi : isControl i = true) (s : State) :
    ∃ c st, exec i s = .next { s with config := c, status := st } := by
  cases i with
  | nop => exact ⟨_, _, exec_nop s⟩
  | cfgWrite m => exact ⟨_, _, exec_cfgWrite s m⟩
  | statusClear m => exact ⟨_, _, exec_statusClear s m⟩
  | illegal => exact ⟨_, _, exec_illegal s⟩
  | _ => nomatch hi

/-- A sticky flag that STATUS_CLEAR does not select stays. -/
theorem and_not_of_eq_false {f selected : Bool} (h : selected = false) : (f && !selected) = f := by
  rw [h, Bool.not_false, Bool.and_true]

/-- Settles O50: no control command writes more than CONFIG and STATUS (`exec_of_isControl`), and of these each command
writes what its equation says. -/
theorem controlCommandsFrame : Obligations.ControlCommandsFrame := by
  refine ⟨fun i s t hi h => ?_, exec_nop, fun m s => ⟨_, exec_cfgWrite s m⟩, fun m s => ?_,
    fun s => ⟨_, exec_illegal s⟩⟩
  · obtain ⟨c, st, he⟩ := exec_of_isControl hi s
    obtain rfl := Host.Outcome.next.inj (he.symm.trans h)
    exact ⟨rfl, rfl, rfl, rfl, rfl, rfl, rfl, rfl, rfl, rfl, rfl, rfl, rfl, rfl, rfl, rfl, rfl, rfl, rfl, rfl⟩
  · exact ⟨clearedStatus m s.status, exec_statusClear s m, and_not_of_eq_false, and_not_of_eq_false,
      and_not_of_eq_false, rfl, rfl⟩

end Sys2Proof.Machine

namespace Sys2Proof.Machine

/-! ### 60_exceptions.md: the block never traps (R180, R196) -/

/-- The case of `step` in which nothing is pending, as an equation for rewriting with. -/
theorem step_of_port_nil {s : State} (hport : s.port = []) : step s = .next s := by
  simp only [step, hport]

/-- Settles O9: it is the case of `step` in which nothing is pending. -/
theorem idleBlockIsUnchanged : Obligations.IdleBlockIsUnchanged :=
  fun _ => step_of_port_nil

@[simp] theorem complete_port (s : State) : (complete s).port = s.port := by
  obtain ⟨o, -, ⟨-, hc⟩ | ⟨-, hc⟩⟩ := complete_cases s <;> rw [hc] <;> rfl

@[simp] theorem complete_params (s : State) : (complete s).params = s.params := by
  obtain ⟨o, -, ⟨-, hc⟩ | ⟨-, hc⟩⟩ := complete_cases s <;> rw [hc] <;> rfl

/-- Every command answers a next state: RX_BYTE in each of the three receive states, the others in their one arm. -/
theorem exists_exec_eq_next (i : Instr) (s : State) : ∃ t, exec i s = .next t := by
  cases i with
  | rxByte b =>
    obtain ⟨-, he⟩ | ⟨-, he⟩ | ⟨-, he⟩ := execRxByte_cases b s <;> exact ⟨_, (exec_rxByte s b).trans he⟩
  | _ => exact ⟨_, rfl⟩

/-- No command reaches the port or the parameter. -/
theorem exec_keeps_port_params {i : Instr} {s t : State} (h : exec i s = .next t) :
    t.port = s.port ∧ t.params = s.params := by
  cases i with
  | rxByte b =>
    obtain rfl | rfl | ⟨-, rfl⟩ | ⟨n, k, -, rfl⟩ | ⟨-, -, rfl⟩ := exec_rxByte_inv h <;> simp
  | _ =>
    obtain rfl := Host.Outcome.next.inj h
    exact ⟨rfl, rfl⟩

/-- Settles O11, by the cases of a step: nothing pending, one command, the reset input. -/
theorem everyStepGoesOn : Obligations.EveryStepGoesOn := by
  intro s
  obtain ⟨hport, hstep⟩ | ⟨w, rest, hport, hstep⟩ | ⟨rest, hport, hstep⟩ := step_cases s <;> rw [hstep, hport]
  · exact ⟨s, rfl, hport, rfl⟩
  · obtain ⟨t, ht⟩ := exists_exec_eq_next (decode w) { s with port := rest }
    exact ⟨t, ht, exec_keeps_port_params ht⟩
  · exact ⟨_, rfl, rfl, rfl⟩

/-! ### 60_exceptions.md: which commands record an outcome, and what else they do (R182, R184, R187, R197) -/

/-- Settles O51: `recordedStatus` at each value of DONE. -/
theorem recordSetsOutcome : Obligations.RecordSetsOutcome := by
  refine fun o s => ⟨fun hdone => ?_, fun hdone => ?_⟩
  · rw [record, recordedStatus, hdone, Bool.or_true]
  · rw [record, recordedStatus, hdone, Bool.or_false]

/-- The registers R197 lists, and the parameter, are in t what they are in s. -/
abbrev EncoderKept (s t : State) : Prop :=
  t.crcAcc = s.crcAcc ∧ t.config = s.config ∧ t.yawOut = s.yawOut ∧ t.pitchOut = s.pitchOut ∧
  t.txLastCrc = s.txLastCrc ∧ t.txOut = s.txOut ∧ t.params = s.params

/-- Everything a recording command does: it records one outcome, on a state u that differs from the old one in
decoder registers alone, and there in STATUS by the return to SEARCH. -/
theorem exec_of_recordsOutcome {i : Instr} {s : State} (hrec : recordsOutcome i s = true) :
    ∃ o u, o ≠ .none ∧ exec i s = .next (record o u) ∧ u.status = { s.status with rxState := .search } ∧
      EncoderKept s u := by
  cases i with
  | rxAbort =>
    exact ⟨_, toSearch s, abortOutcome_ne_none _, exec_rxAbort s, rfl, rfl, rfl, rfl, rfl, rfl, rfl, rfl⟩
  | rxByte b =>
    obtain ⟨hrx, hfull⟩ := of_decide_eq_true hrec
    have hexec := exec_rxByte_last hrx hfull b
    obtain ⟨o, ho, ⟨-, hc⟩ | ⟨-, hc⟩⟩ := complete_cases (storeRx 21 b s) <;> rw [hc] at hexec <;>
      exact ⟨o, _, ho, hexec, rfl, rfl, rfl, rfl, rfl, rfl, rfl, rfl⟩
  | _ => nomatch hrec

/-- A command that records nothing leaves RESULT, DONE and OVERRUN, unless it is STATUS_CLEAR (R182). -/
theorem exec_keeps_outcome {i : Instr} {s t : State} (hrec : recordsOutcome i s = false)
    (hi : ∀ m : Half, i ≠ .statusClear m) (h : exec i s = .next t) :
    t.status.result = s.status.result ∧ t.status.done = s.status.done ∧ t.status.overrun = s.status.overrun := by
  cases i with
  | rxByte b =>
    obtain rfl | rfl | ⟨-, rfl⟩ | ⟨n, k, -, rfl⟩ | ⟨hrx, hfull, -⟩ := exec_rxByte_inv h
    · exact ⟨rfl, rfl, rfl⟩
    · exact ⟨rfl, rfl, rfl⟩
    · exact ⟨rfl, rfl, rfl⟩
    · exact ⟨rfl, rfl, rfl⟩
    · exact absurd ⟨hrx, hfull⟩ (of_decide_eq_false hrec)
  | rxAbort => nomatch hrec
  | statusClear m => exact absurd rfl (hi m)
  | _ =>
    obtain rfl := Host.Outcome.next.inj h
    exact ⟨rfl, rfl, rfl⟩

/-- Settles O53: a recording command records one outcome on the old DONE and OVERRUN (`exec_of_recordsOutcome`); of the
others STATUS_CLEAR only clears, and the rest leave all three fields (`exec_keeps_outcome`). -/
theorem outcomesRecordedOnlyByReceive : Obligations.OutcomesRecordedOnlyByReceive := by
  refine fun i s t h => ⟨fun hrec => ?_, fun hrec => ?_⟩
  · obtain ⟨o, u, ho, hexec, hstatus, -⟩ := exec_of_recordsOutcome hrec
    obtain rfl := Host.Outcome.next.inj (hexec.symm.trans h)
    rw [record_status, hstatus]
    exact ⟨rfl, ho, rfl, rfl⟩
  · by_cases hi : ∃ m : Half, i = .statusClear m
    · obtain ⟨m, rfl⟩ := hi
      obtain rfl := Host.Outcome.next.inj h
      exact ⟨rfl, Bool.and_elim_left, Bool.and_elim_left, fun hne => absurd rfl (hne m)⟩
    · obtain ⟨hresult, hdone, hover⟩ := exec_keeps_outcome hrec (not_exists.mp hi) h
      exact ⟨hresult, hdone ▸ id, hover ▸ id, fun _ => ⟨hdone, hover⟩⟩

/-- Settles O54: `exec_of_recordsOutcome`, and a frame depends on what is kept (`txFrame_congr`). -/
theorem outcomesLeaveEncoderAlone : Obligations.OutcomesLeaveEncoderAlone := by
  intro i s hrec
  obtain ⟨o, u, -, hexec, -, hacc, hconfig, hyaw, hpitch, hlast, hout, hparams⟩ := exec_of_recordsOutcome hrec
  exact ⟨record o u, hexec, hacc, hconfig, hyaw, hpitch, hlast, hout, txFrame_congr hyaw hpitch hparams⟩

/-! ### 60_exceptions.md: STATUS and CONFIG bit by bit (R181; R24 to R35 10_state.md)

Which bits each part of the two words can set; at any bit the parts that cannot set it drop out. -/

theorem flagAt_getLsbD_self (f : Bool) {n : Nat} (hn : n < 16) : (flagAt f n).getLsbD n = f := by
  cases f with
  | false => exact BitVec.getLsbD_zero
  | true => rw [flagAt, if_pos rfl, ← BitVec.twoPow_eq, BitVec.getLsbD_twoPow, decide_eq_true hn, decide_eq_true rfl,
      Bool.and_self]

theorem flagAt_getLsbD_of_ne (f : Bool) {n k : Nat} (hk : n ≠ k) : (flagAt f n).getLsbD k = false := by
  cases f with
  | false => exact BitVec.getLsbD_zero
  | true => rw [flagAt, if_pos rfl, ← BitVec.twoPow_eq, BitVec.getLsbD_twoPow, decide_eq_false hk, Bool.and_false]

/-- The code of a receive state has two bits (R29 10_state.md). -/
theorem rxState_code_getLsbD_of_ge (x : RxState) {k : Nat} (hk : 2 ≤ k) : x.code.getLsbD k = false := by
  have hlt : x.code.toNat < 2 ^ 2 := by cases x <;> decide
  exact Nat.testBit_lt_two_pow (hlt.trans_le (Nat.pow_le_pow_right (by decide) hk))

/-- The code of an outcome, in its place, has no bit below 4 (R32 10_state.md). -/
theorem result_code_getLsbD_of_lt (o : RxResult) {k : Nat} (hk : k < 4) : (o.code <<< 4).getLsbD k = false := by
  rw [BitVec.getLsbD_shiftLeft, decide_eq_true hk, Bool.not_true, Bool.and_false, Bool.false_and]

/-- The code of an outcome, in its place, has no bit from 7 on (R32 10_state.md). -/
theorem result_code_getLsbD_of_ge (o : RxResult) {k : Nat} (hk : 7 ≤ k) : (o.code <<< 4).getLsbD k = false := by
  have hlt : (o.code <<< 4).toNat < 2 ^ 7 := by cases o <;> decide
  exact Nat.testBit_lt_two_pow (hlt.trans_le (Nat.pow_le_pow_right (by decide) hk))

theorem statusWord_getLsbD (t : Status) (k : Nat) :
    (statusWord t).getLsbD k = (t.rxState.code.getLsbD k || (flagAt t.done 2).getLsbD k ||
      (t.result.code <<< 4).getLsbD k || (flagAt t.overrun 7).getLsbD k || (flagAt t.cmdErr 8).getLsbD k) := by
  simp only [statusWord, BitVec.getLsbD_or]

/-- Bits 1:0 of STATUS are the code of the receive state (R29 10_state.md). -/
theorem statusWord_rxState (t : Status) : (statusWord t).extractLsb' 0 2 = t.rxState.code.extractLsb' 0 2 := by
  refine BitVec.eq_of_getLsbD_eq fun k hk => ?_
  simp (disch := omega) only [BitVec.getLsbD_extractLsb', statusWord_getLsbD, flagAt_getLsbD_of_ne,
    result_code_getLsbD_of_lt, Bool.or_false]

/-- Bits 6:4 of STATUS are the code of the outcome (R32 10_state.md). -/
theorem statusWord_result (t : Status) :
    (statusWord t).extractLsb' 4 3 = (t.result.code <<< 4).extractLsb' 4 3 := by
  refine BitVec.eq_of_getLsbD_eq fun k hk => ?_
  simp (disch := omega) only [BitVec.getLsbD_extractLsb', statusWord_getLsbD, flagAt_getLsbD_of_ne,
    rxState_code_getLsbD_of_ge, Bool.or_false, Bool.false_or]

/-- Bits 15:9 of STATUS are set by no part (R35 10_state.md). -/
theorem statusWord_reserved (t : Status) : (statusWord t).extractLsb' 9 7 = 0#7 := by
  refine BitVec.eq_of_getLsbD_eq fun k hk => ?_
  simp (disch := omega) only [BitVec.getLsbD_extractLsb', statusWord_getLsbD, flagAt_getLsbD_of_ne,
    rxState_code_getLsbD_of_ge, result_code_getLsbD_of_ge, Bool.or_false, Bool.and_false, BitVec.getLsbD_zero]

/-- Bits 15:2 of CONFIG are set by no part (R27 10_state.md). -/
theorem configWord_reserved (c : ConfigReg) : (configWord c).extractLsb' 2 14 = 0#14 := by
  refine BitVec.eq_of_getLsbD_eq fun k _ => ?_
  simp (disch := omega) only [BitVec.getLsbD_extractLsb', configWord, BitVec.getLsbD_or, flagAt_getLsbD_of_ne,
    Bool.or_false, Bool.and_false, BitVec.getLsbD_zero]

/-- Settles O52: a code fills its own bits and a flag its own bit, since no other part of the word reaches them. -/
theorem statusAndConfigLayout : Obligations.StatusAndConfigLayout := by
  refine ⟨fun t => ⟨?_, ?_, ?_, ?_, ?_, ?_, statusWord_reserved t⟩, fun c => ⟨?_, ?_, configWord_reserved c⟩⟩
  · rw [statusWord_rxState]
    cases t.rxState <;> rfl
  · simp (disch := omega) only [statusWord_getLsbD, rxState_code_getLsbD_of_ge, flagAt_getLsbD_self,
      flagAt_getLsbD_of_ne, result_code_getLsbD_of_lt, Bool.false_or, Bool.or_false]
  · simp (disch := omega) only [statusWord_getLsbD, rxState_code_getLsbD_of_ge, flagAt_getLsbD_of_ne,
      result_code_getLsbD_of_lt, Bool.or_false]
  · rw [statusWord_result]
    cases t.result <;> rfl
  · simp (disch := omega) only [statusWord_getLsbD, rxState_code_getLsbD_of_ge, flagAt_getLsbD_self,
      flagAt_getLsbD_of_ne, result_code_getLsbD_of_ge, Bool.false_or, Bool.or_false]
  · simp (disch := omega) only [statusWord_getLsbD, rxState_code_getLsbD_of_ge, flagAt_getLsbD_self,
      flagAt_getLsbD_of_ne, result_code_getLsbD_of_ge, Bool.false_or]
  · simp (disch := omega) only [configWord, BitVec.getLsbD_or, flagAt_getLsbD_self, flagAt_getLsbD_of_ne, Bool.or_false]
  · simp (disch := omega) only [configWord, BitVec.getLsbD_or, flagAt_getLsbD_self, flagAt_getLsbD_of_ne, Bool.false_or]

end Sys2Proof.Machine

namespace Sys2Proof

/-- Settles O1: the sixteen words are literals, so the decoder is run on each. -/
theorem specWordsDecode : Obligations.SpecWordsDecode := by
  unfold Obligations.SpecWordsDecode
  decide

end Sys2Proof
